-- ==== Sys2Proof/Word.lean ====
section
/-!
DEFINITION. The words the Isparel 6420's packets are made of: bytes and the multi-byte fields of its
commands (spec/11, section 11.8). Everything the part only counts or names is a `Nat` in the state;
these bit vectors are what stands on the wire.
-/

namespace Sys2Proof

/-- One byte of a packet. -/
abbrev Byte := BitVec 8

/-- A two-byte field: services, multiplex ids, stream numbers, products, PINs, tags (section 11.8). -/
abbrev Word16 := BitVec 16

/-- A four-byte field: network times, the unit address (section 11.8). -/
abbrev Word32 := BitVec 32

/-- An 8-byte key value (section 5.1). -/
abbrev Word64 := BitVec 64

/-- A transport packet: 188 bytes (spec/00, Terms; layout in section 11.9). -/
abbrev Packet := Vector Byte 188

end Sys2Proof
end

