-- ==== Sys2Proof/Config.lean ====
section
/-!
DEFINITION. The values that the manual leaves open and the part nevertheless produces. Each is a
constant with no body: nothing can be proved of its value, so whatever is proved holds for every value.
Those that stand for a fresh value each time are applied to `State.draws`, a counter of the state that
the step advances.
-/

namespace Sys2Proof.Config

/-- The descrambling cipher (spec/00, About this manual: "does not specify its arithmetic"): byte `i` of
the descrambled payload, from the key value and the scrambled payload. One byte out for each byte in, as
R86 and spec/00 require (the transform keeps the length). Log entry 1. -/
opaque cipherByte : (key : Word64) → (payload : List Byte) → (i : Nat) → Byte

/-- A choice between orders that the manual leaves open within one event (log entry 2). -/
opaque pick : (draw : Nat) → (place : Nat) → Nat

/-- The bytes sent in the place of an absent result field that has a presence byte: R209 says the field
is "still sent at its full width" and gives no value (log entry 3). -/
opaque absentByte : (draw : Nat) → (place : Nat) → Byte

/-- The bytes that stand for the programme override "unguided" in a result: R209 gives no encoding of it
(log entry 4). -/
opaque unguidedByte : (draw : Nat) → (place : Nat) → Byte

/-- The byte that marks a free slot in the READ SLOT response: R92 names no value (log entry 5). -/
opaque freeSlotMark : (draw : Nat) → Byte

end Sys2Proof.Config
end

