-- ==== Sys2Proof/Syntax.lean ====
section
/-!
DEFINITION. The commands and events of the part: one constructor for each row of spec/opcode_table.json.
A host command carries its tag (R198, R200) and the parameters of section 11.7, field by field at the
width they have on the wire, so that every value a command packet can carry can be written here, those
included that the command's own rule refuses. An event carries what the outside delivers with it.
-/

namespace Sys2Proof

/-- The two cable inputs (spec/00, Numbering). -/
inductive Input where
  | a
  | b
  deriving DecidableEq, Repr

/-- The ports that send packets and become FREE at the last byte: the two decoder outputs, the recorder
output (R58, R59) and the return port (R201). -/
inductive OutPort where
  | decoder (display : Fin 2)
  | recorder
  | returnPort
  deriving DecidableEq, Repr

/-- The commands and events, in the order of spec/opcode_table.json. -/
inductive Instr where
  -- host commands on port C (section 11.7)
  | setUnit (tag : Word16) (address : Word32)
  | setZone (tag : Word16) (minutes : Word16)
  | declareInput (tag : Word16) (input present : Byte) (multiplex : Word16)
  | loadService (tag : Word16) (service multiplex : Word16) (components : List (Word16 × Byte))
      (keyPresent : Byte) (keyStream baseProduct : Word16)
  | dropService (tag : Word16) (service : Word16)
  | addRoute (tag : Word16) (input : Byte) (stream : Word16) (kind : Byte)
  | dropRoute (tag : Word16) (input : Byte) (stream : Word16)
  | loadProfile (tag : Word16) (profile : Byte) (pin : Word16) (purchase ceiling policy : Byte)
      (windowStart windowEnd budget : Word16)
  | setTimer (tag : Word16) (timer weekday hour minute action display lane : Byte)
      (service duration : Word16) (repeats : Byte)
  | clearTimer (tag : Word16) (timer : Byte)
  | setLaneOptions (tag : Word16) (lane ceiling dwell silence holdAtEnd : Byte)
  | setKeyDepth (tag : Word16) (depth : Byte)
  | tune (tag : Word16) (lane : Byte) (service : Word16) (profile : Byte)
  | untune (tag : Word16) (lane : Byte)
  | laneControl (tag : Word16) (lane hold blank : Byte)
  | survey (tag : Word16) (lane : Byte) (services : List Word16)
  | purchase (tag : Word16) (profile : Byte) (pin service event : Word16)
  | cancel (tag : Word16) (sequence : Word16)
  | unlock (tag : Word16) (pin : Word16) (scope target : Byte) (minutes : Word16)
  | pollPrompt (tag : Word16) (display : Byte)
  | endPrompt (tag : Word16) (display kind : Byte)
  | maskPrompt (tag : Word16) (display masked : Byte)
  | orderPrompt (tag : Word16) (display lowest autoRotate : Byte)
  | clearKeys (tag : Word16) (slot : Byte)
  | readLane (tag : Word16) (lane : Byte)
  | readService (tag : Word16) (service : Word16)
  | readSlot (tag : Word16) (slot : Byte)
  | readGrant (tag : Word16) (index : Byte)
  | readLog (tag : Word16) (index : Byte)
  | readGuide (tag : Word16) (service index : Word16)
  | readSurvey (tag : Word16) (lane index : Byte)
  | readClock (tag : Word16)
  | readProfile (tag : Word16) (profile : Byte)
  | readTimer (tag : Word16) (timer : Byte)
  | restart (tag : Word16)
  -- port C packets that are no command of section 11.7
  | unknownCommand (packet : Packet)
  | portCPacketDrop (packet : Packet)
  -- events
  | cablePacket (input : Input) (errorLine : Bool) (packet : Packet)
  | tickEvent
  | stalled (lane : Fin 6)
  | silenceLimit (lane : Fin 6)
  | surveyTurnEnd (lane : Fin 6)
  | secondEvent
  | autoStopped (lane : Fin 6)
  | lockoutEnded (profile : Fin 4)
  | periodEnded (profile : Fin 4)
  | pendingStepDrop
  | expired
  | timerFire (timer : Fin 24) (index : Word32)
  | decoderOutputTake (display : Fin 2) (ready : Bool)
  | recorderGrant (ready : Bool)
  | returnPortTake (ready : Bool)
  | sendComplete (port : OutPort)
  | noticeMove
  | powerOn
  | resetRelease
  deriving DecidableEq, Repr

end Sys2Proof
end

