-- ==== Sys2Proof/Machine/Bytes.lean ====
section
/-!
DEFINITION. Byte order and bit fields: the multi-byte values of section 11.8, the transport packet header
and extension of section 11.9 (R211), and the section check of R14.
-/

namespace Sys2Proof.Machine

/-- The value of a byte string, most significant byte first (section 11.8). -/
def natOfBytes (bs : List Byte) : Nat :=
  bs.foldl (fun acc b => acc * 256 + b.toNat) 0

/-- `n` sent in `width` bytes, most significant byte first (section 11.8); higher bits fall away. -/
def bytesOfNat : (width n : Nat) → List Byte
  | 0, _ => []
  | w + 1, n => BitVec.ofNat 8 (n / 256 ^ w) :: bytesOfNat w n

/-- A two-byte field from its bytes, high byte first. -/
def word16 (hi lo : Byte) : Word16 := hi ++ lo

/-- A four-byte field from its bytes, high byte first. -/
def word32 (b3 b2 b1 b0 : Byte) : Word32 := b3 ++ b2 ++ b1 ++ b0

/-- The two bytes of a field, high byte first. -/
def bytes16 (w : Word16) : List Byte := [w.extractLsb' 8 8, w.extractLsb' 0 8]

/-- The four bytes of a field, high byte first. -/
def bytes32 (w : Word32) : List Byte :=
  [w.extractLsb' 24 8, w.extractLsb' 16 8, w.extractLsb' 8 8, w.extractLsb' 0 8]

/-- A packet from its bytes: short strings are filled with 0xFF as R202 fills a packet, and bytes beyond
188 fall away. -/
def packetOfBytes (bs : List Byte) : Packet :=
  Vector.ofFn fun i => bs.getD i.val 0xFF#8

/-! ### The transport packet header and extension (section 11.9) -/

/-- Byte `i` of a packet. -/
def packetByte (p : Packet) (i : Nat) : Byte := p.toList.getD i 0#8

/-- The sync value, byte 0. -/
def syncGood (p : Packet) : Bool := packetByte p 0 == 0x47#8

/-- The error flag, byte 1 bit 7. -/
def errorFlag (p : Packet) : Bool := (packetByte p 1).getLsbD 7

/-- The section start flag, byte 1 bit 6. -/
def startFlag (p : Packet) : Bool := (packetByte p 1).getLsbD 6

/-- Payload presence, byte 1 bit 5. -/
def payloadFlag (p : Packet) : Bool := (packetByte p 1).getLsbD 5

/-- Extension presence, byte 1 bit 4. -/
def extensionFlag (p : Packet) : Bool := (packetByte p 1).getLsbD 4

/-- The sequence count, byte 1 bits 3 to 0. -/
def sequenceCount (p : Packet) : BitVec 4 := (packetByte p 1).extractLsb' 0 4

/-- The key phase as it arrives: byte 2 bits 7 and 6. -/
inductive WirePhase where
  | clear
  | reserved
  | even
  | odd
  deriving DecidableEq, Repr

/-- The key phase of a packet: 0 CLEAR, 1 RESERVED, 2 EVEN, 3 ODD. -/
def wirePhase (p : Packet) : WirePhase :=
  match (packetByte p 2).getLsbD 7, (packetByte p 2).getLsbD 6 with
  | false, false => .clear
  | false, true => .reserved
  | true, false => .even
  | true, true => .odd

/-- The stream number: byte 2 bits 4 to 0, then byte 3. -/
def streamNumber (p : Packet) : Nat :=
  ((packetByte p 2).extractLsb' 0 5).toNat * 256 + (packetByte p 3).toNat

/-- The extension length L, taken as 183 when above it (R211). -/
def extensionLength (p : Packet) : Nat := min (packetByte p 4).toNat 183

/-- The discontinuity flag: extension byte 5 bit 7, clear when there is no extension or L is 0 (R211). -/
def discontinuityFlag (p : Packet) : Bool :=
  extensionFlag p && decide (1 ≤ extensionLength p) && (packetByte p 5).getLsbD 7

/-- The entry-point flag: extension byte 5 bit 6, clear when there is no extension or L is 0 (R211). -/
def entryPointFlag (p : Packet) : Bool :=
  extensionFlag p && decide (1 ≤ extensionLength p) && (packetByte p 5).getLsbD 6

/-- The byte at which the payload starts: 5 + L with an extension, 4 without (R211). -/
def payloadStart (p : Packet) : Nat := if extensionFlag p then 5 + extensionLength p else 4

/-- The payload bytes: none when the payload presence flag is clear (section 1.1). -/
def payload (p : Packet) : List Byte :=
  if payloadFlag p then p.toList.drop (payloadStart p) else []

/-- A packet **with a payload**: the flag is set and at least one byte is left (section 1.1). -/
def hasPayload (p : Packet) : Bool := !(payload p).isEmpty

/-- The packet with its error flag set, as the demodulator's error line sets it (spec/00, Signals). -/
def setErrorFlag (p : Packet) : Packet :=
  p.set 1 (p[1] ||| 0x80#8)

/-- The packet with key phase CLEAR and its other bytes unchanged (R85). -/
def setPhaseClear (p : Packet) : Packet :=
  p.set 2 (p[2] &&& 0x3F#8)

/-- The packet with key phase CLEAR and its payload bytes replaced one for one (R86). -/
def replacePayload (p : Packet) (f : List Byte → Nat → Byte) : Packet :=
  let q := setPhaseClear p
  let start := payloadStart p
  Vector.ofFn fun i =>
    if start ≤ i.val then f (payload p) (i.val - start) else q[i]

/-! ### The section check (R14) -/

/-- One bit fed to the check register: generator polynomial 0x04C11DB7. -/
def crcBit (r : Word32) (bit : Bool) : Word32 :=
  if r.getLsbD 31 != bit then (r <<< 1) ^^^ 0x04C11DB7#32 else r <<< 1

/-- One byte fed to the check register, most significant bit first. -/
def crcByte (r : Word32) (b : Byte) : Word32 :=
  [7, 6, 5, 4, 3, 2, 1, 0].foldl (fun acc i => crcBit acc (b.getLsbD i)) r

/-- The check register after a whole section: it starts at all ones and is not inverted at the end. -/
def crc (bs : List Byte) : Word32 := bs.foldl crcByte 0xFFFFFFFF#32

end Sys2Proof.Machine
end

