-- ==== Sys2Proof/Machine/State.lean ====
section
/-!
DEFINITION. The state of the Isparel 6420 as plain data: every record, table, buffer, counter and pin
that spec/ gives the part, the queue of commands that wait (`pending`), and three fields of the model's
own (`secondTaken`, `draws` and `pending` itself; INVENTORY.md lists them). Values the manual calls "none" or
"absent" are `Option`s. `State.powerOn` is the state under a held reset line (R208), `State.reset` the
same with the line released.
-/

namespace Sys2Proof.Machine

/-! ### Intake and stream map (spec/01) -/

/-- The sync state of a cable input (R1). -/
inductive SyncState where
  | inSync
  | outOfSync
  deriving DecidableEq, Repr

/-- What the intake keeps for one cable input: its sync state (R1) and its declared multiplex (R4). -/
structure InputState where
  sync : SyncState
  declared : Option Nat
  deriving DecidableEq, Repr

/-- The four section kinds (section 1.4), with wire codes 1 KEY to 4 GUIDE. -/
inductive SectionKind where
  | key
  | grant
  | time
  | guide
  deriving DecidableEq, Repr

/-- Why a section was discarded (R15). -/
inductive DiscardCause where
  | restarted
  | continuity
  | packetError
  | sync
  | input
  | length
  | check
  | kind
  deriving DecidableEq, Repr

/-- The section record of one kind (section 1.4). -/
structure SectionRecord where
  accepted : Nat
  discarded : Nat
  lastCause : Option DiscardCause
  lastPair : Option (Input × Nat)
  deriving DecidableEq, Repr

/-- The section a MESSAGE entry is gathering (section 1.2): IDLE, or ASSEMBLING with the bytes held and
the number expected. -/
inductive Assembly where
  | idle
  | assembling (held : List Byte) (expected : Nat)
  deriving DecidableEq, Repr

/-- The role of a stream map entry, fixed for its life (R5): a COMPONENT entry has a destination set and
may have a key slot, a MESSAGE entry has a route and a section assembly. -/
inductive Role where
  | component (destinations : List (Fin 6)) (slot : Option (Fin 16))
  | message (route : SectionKind) (assembly : Assembly)
  deriving DecidableEq, Repr

/-- A stream map entry (section 1.2). -/
structure MapEntry where
  input : Input
  stream : Nat
  role : Role
  lastCount : Option (BitVec 4)
  duplicateMark : Bool
  deriving DecidableEq, Repr

/-! ### Services (spec/02) -/

/-- The type of a component (section 2.1). -/
inductive ComponentType where
  | video
  | audio
  | data
  deriving DecidableEq, Repr

/-- One component of a service. -/
structure Component where
  stream : Nat
  type : ComponentType
  deriving DecidableEq, Repr

/-- A service record (section 2.1). The first component is the lead component. -/
structure Service where
  number : Nat
  multiplex : Nat
  components : List Component
  keyStream : Option Nat
  baseProduct : Nat
  deriving DecidableEq, Repr

/-! ### Guide entries (spec/08), named here because lanes keep a copy of one -/

/-- A guide entry (section 8.1). -/
structure GuideEntry where
  service : Nat
  event : Nat
  start : Nat
  duration : Nat
  rating : Nat
  product : Nat
  price : Nat
  deriving DecidableEq, Repr

/-! ### Lanes and gates (spec/02, spec/03) -/

/-- The lane states (section 2.3). -/
inductive LaneState where
  | idle
  | acquiring
  | passing
  | degraded
  | stalled
  | lost
  | surveying
  deriving DecidableEq, Repr

/-- The acquisition step still to be completed (section 2.3). -/
inductive AcquireStep where
  | signal
  | key
  | entry
  deriving DecidableEq, Repr

/-- The latest change of a lane (section 2.3). -/
inductive LaneChange where
  | tuned
  | passed
  | stalled
  | degraded
  | recovered
  | lost
  | reacquiring
  | reacquireRefused
  | autoStopped
  | heldAtEnd
  | untuned
  deriving DecidableEq, Repr

/-- Why an installation was refused: by the stream map (CONFLICT) or for want of places (FULL). -/
inductive InstallRefusal where
  | conflict
  | full
  deriving DecidableEq, Repr

/-- A programme override: for one event, or for "unguided" (section 2.3, R164). -/
inductive ProgrammeOverride where
  | event (id : Nat)
  | unguided
  deriving DecidableEq, Repr

/-- A reason set: each of the eight gate reasons present or absent (R47). -/
structure Reasons where
  hostHold : Bool := false
  hostBlank : Bool := false
  acquire : Bool := false
  degrade : Bool := false
  rating : Bool := false
  window : Bool := false
  budget : Bool := false
  access : Bool := false
  deriving DecidableEq, Repr

/-- The gate states (section 3.2). -/
inductive GateState where
  | hold
  | blank
  | releasing
  | pass
  deriving DecidableEq, Repr

/-- A hand-off buffer (R56): EMPTY, or FULL with a programme packet or a blank order. -/
inductive Buffer where
  | empty
  | programme (packet : Packet)
  | blankOrder
  deriving DecidableEq, Repr

/-- The lane record (section 2.3), with the lane's gate state, reason set and hand-off buffer (spec/03)
and its current entry copy (R144), whose event id is the record's current guide entry. -/
structure Lane where
  state : LaneState
  step : Option AcquireStep
  service : Option Nat
  input : Option Input
  profile : Option (Fin 4)
  ceiling : Nat
  dwell : Nat
  silenceLimit : Nat
  holdAtEnd : Bool
  health : Nat
  ticks : Nat
  signalTick : Option Nat
  keyTick : Option Nat
  entryTick : Option Nat
  silence : Nat
  errors : Nat
  overruns : Nat
  autoStop : Option Nat
  override : Option ProgrammeOverride
  copy : Option GuideEntry
  lastChange : Option LaneChange
  lastRefusal : Option InstallRefusal
  reasons : Reasons
  gate : GateState
  buffer : Buffer
  deriving DecidableEq, Repr

/-! ### Surveys (spec/04) -/

/-- The status of a lane's result table (section 4.1). -/
inductive SurveyStatus where
  | none
  | running
  | complete
  | aborted
  deriving DecidableEq, Repr

/-- The outcome of a survey turn (section 4.1). -/
inductive SurveyOutcome where
  | done
  | noSuch
  | notCarried
  | aborted
  | notReached
  deriving DecidableEq, Repr

/-- A result record; its index is its place in the table, from 1. -/
structure SurveyRecord where
  service : Nat
  input : Option Input
  outcome : Option SurveyOutcome
  refusal : Option InstallRefusal
  leadPackets : Nat
  leadSaturated : Bool
  badEvents : Nat
  scrambledSeen : Bool
  keyObtained : Bool
  firstEntryTick : Option Nat
  lockTick : Option Nat
  deriving DecidableEq, Repr

/-- A lane's result table; the list length is the number of records. -/
structure SurveyTable where
  status : SurveyStatus
  position : Option Nat
  records : List SurveyRecord
  deriving DecidableEq, Repr

/-! ### Key slots (spec/05) -/

/-- A key phase, EVEN or ODD. -/
inductive Phase where
  | even
  | odd
  deriving DecidableEq, Repr

/-- The key of a keyed half, with the product that installed it. -/
structure Key where
  value : Word64
  product : Nat
  deriving DecidableEq, Repr

/-- The value being voted on, its product and its agreement count; there is a count exactly while there
is a candidate (section 5.1). -/
structure Candidate where
  value : Word64
  product : Nat
  agreement : Nat
  deriving DecidableEq, Repr

/-- One half of a key slot. -/
structure Half where
  key : Option Key
  candidate : Option Candidate
  deriving DecidableEq, Repr

/-- An allocated key slot (section 5.1). `phase` is the phase in use, `none` for NONE. -/
structure KeySlot where
  input : Input
  stream : Nat
  users : List (Fin 6)
  phase : Option Phase
  even : Half
  odd : Half
  refused : Nat
  rejected : Nat
  ignored : Nat
  deriving DecidableEq, Repr

/-! ### Entitlements, purchases and credit (spec/06) -/

/-- The source of a grant (section 6.1). -/
inductive GrantSource where
  | headend
  | purchase
  deriving DecidableEq, Repr

/-- A grant (section 6.1). -/
structure Grant where
  product : Nat
  source : GrantSource
  start : Nat
  stop : Option Nat
  sequence : Option Nat
  deriving DecidableEq, Repr

/-- The state of a purchase record (section 6.3). -/
inductive PurchaseState where
  | active
  | cancelled
  deriving DecidableEq, Repr

/-- A purchase record (section 6.3). -/
structure PurchaseRecord where
  sequence : Nat
  event : Nat
  service : Nat
  product : Nat
  price : Nat
  time : Nat
  profile : Fin 4
  state : PurchaseState
  deriving DecidableEq, Repr

/-- The cause of the latest GRANT notice raise (section 6.6). -/
inductive GrantChange where
  | expired
  | headend
  | addDropped
  deriving DecidableEq, Repr

/-- The entitlement block: the grant table in the order of R95, the purchase log oldest first (R107),
credit (R108) and the counts of the status record (section 6.6). -/
structure Entitlement where
  grants : List Grant
  log : List PurchaseRecord
  nextSequence : Nat
  spent : Nat
  ceiling : Nat
  applied : Nat
  malformed : Nat
  dropped : Nat
  lastDropped : Option Nat
  lastChange : Option GrantChange
  deriving DecidableEq, Repr

/-! ### The clock (spec/07) -/

/-- The cause of the latest CLOCK notice raise (section 7.7). -/
inductive ClockChange where
  | valid
  | smallStep
  | largeStep
  deriving DecidableEq, Repr

/-- An unconfirmed large correction with its age in seconds (R126). -/
structure PendingStep where
  value : Nat
  age : Nat
  deriving DecidableEq, Repr

/-- The clock (section 7.2) with its status record (section 7.7). `now` is network time N, `zone` the zone
offset Z, and S, E and Δ are the daylight-saving window. -/
structure Clock where
  valid : Bool
  now : Nat
  zone : Int
  dstStart : Nat
  dstEnd : Nat
  dstDelta : Nat
  pendingStep : Option PendingStep
  previousIndex : Option Nat
  previousDay : Option Nat
  accepted : Nat
  malformed : Nat
  steps : Nat
  unconfirmed : Nat
  lastChange : Option ClockChange
  lastStep : Option Int
  deriving DecidableEq, Repr

/-! ### The guide and the timers (spec/08) -/

/-- The guide table in the order of R137, with the counts of the guide status record (section 8.4). -/
structure Guide where
  entries : List GuideEntry
  taken : Nat
  malformed : Nat
  overlap : Nat
  replaced : Nat
  stored : Nat
  evicted : Nat
  refused : Nat
  deriving DecidableEq, Repr

/-- The action of a timer (section 8.5). -/
inductive TimerAction where
  | remind
  | record
  deriving DecidableEq, Repr

/-- The outcome of a timer's last firing (section 8.5). -/
inductive TimerOutcome where
  | fired
  | noSuch
  | notCarried
  | full
  | conflict
  deriving DecidableEq, Repr

/-- With CONFLICT, whether the lane or the stream map refused (section 8.5). -/
inductive TimerCause where
  | laneBusy
  | streamMap
  deriving DecidableEq, Repr

/-- A timer (section 8.5). A weekday, hour or minute of `none` is ANY. The display, lane and duration are
kept as SET TIMER gave them, since R149 does not examine those that the action does not use. -/
structure Timer where
  isSet : Bool
  weekday : Option Nat
  hour : Option Nat
  minute : Option Nat
  action : TimerAction
  display : Nat
  lane : Nat
  service : Nat
  duration : Nat
  repeats : Bool
  lastFired : Option Nat
  lastOutcome : Option TimerOutcome
  lastCause : Option TimerCause
  deriving DecidableEq, Repr

/-! ### Profiles (spec/09) -/

/-- The cause of the latest PROFILE notice raise (section 9.1). -/
inductive ProfileChange where
  | lockedOut
  | lockoutEnded
  | periodEnded
  | budgetReached
  | dayReset
  deriving DecidableEq, Repr

/-- The unrated policy of a profile (section 9.1). -/
inductive UnratedPolicy where
  | allow
  | block
  deriving DecidableEq, Repr

/-- A viewer profile (section 9.1). `pin` is `none` for UNSET; `used` is U and `extension` is X. -/
structure Profile where
  pin : Option Nat
  purchaseAllowed : Bool
  ceiling : Nat
  unrated : UnratedPolicy
  windowStart : Nat
  windowEnd : Nat
  budget : Nat
  used : Nat
  extension : Nat
  recordedDay : Option Nat
  failures : Nat
  lockout : Nat
  period : Nat
  lastChange : Option ProfileChange
  deriving DecidableEq, Repr

/-! ### Prompt arbiters (spec/10) -/

/-- The state of a prompt entry (R181). -/
inductive PromptState where
  | absent
  | pending
  | inService
  | dismissed
  deriving DecidableEq, Repr

/-- The context record of a prompt (R181). -/
structure PromptContext where
  lane : Option Nat := none
  service : Option Nat := none
  event : Option Nat := none
  profile : Option Nat := none
  rating : Option Nat := none
  price : Option Nat := none
  timer : Option Nat := none
  deriving DecidableEq, Repr

/-- The entry of one prompt kind (R181). -/
structure PromptEntry where
  state : PromptState
  masked : Bool
  context : PromptContext
  deriving DecidableEq, Repr

/-- A report set (R193): ELIGIBLE, WITHDRAWN, CONTEXT and the set of kinds withdrawn. -/
structure ReportSet where
  eligible : Bool
  withdrawn : Bool
  context : Bool
  kinds : List (Fin 8)
  deriving DecidableEq, Repr

/-- A prompt arbiter (spec/10): its eight entries, the in-service stack bottom first (R187), the lowest
kind and the auto-rotate flag (R186), and the report set (R193). -/
structure Arbiter where
  entries : Vector PromptEntry 8
  stack : List (Fin 8)
  lowest : Fin 8
  autoRotate : Bool
  report : ReportSet
  deriving DecidableEq, Repr

/-! ### Responses and notices (spec/11) -/

/-- The status values of a response (R200). -/
inductive Status where
  | ok
  | unknown
  | range
  | noSuch
  | full
  | conflict
  | inUse
  | busy
  | notCarried
  | noClock
  | badPin
  | lockedOut
  | refused
  | notOffered
  | tooLate
  | already
  | noCredit
  | logFull
  deriving DecidableEq, Repr

/-- A notice: its kind and its subject (R203, R205). -/
inductive Notice where
  | lane (lane : Fin 6)
  | survey (lane : Fin 6)
  | prompt (display : Fin 2)
  | timer (timer : Fin 24)
  | clock
  | grant
  | sections (kind : SectionKind)
  | profile (profile : Fin 4)
  deriving DecidableEq, Repr

/-- What a packet of the return queue carries (section 11.9): a response (R200) or a notice with its
snapshot (R205). -/
inductive ReturnBody where
  | response (tag : Word16) (code : Byte) (status : Status) (result : List Byte)
  | notice (notice : Notice) (snapshot : List Byte)
  deriving DecidableEq, Repr

/-- A packet of the return queue, with the return count it took on entering (R202). -/
structure ReturnPacket where
  count : BitVec 4
  body : ReturnBody
  deriving DecidableEq, Repr

/-! ### Outputs (spec/03) -/

/-- What the recorder output sends: the packet, framed with the lane granted and whether it is a blank
order (R60, section 11.9). Recording lanes are counted from 0 here: `0` is lane 2, `3` is lane 5. -/
structure RecorderFrame where
  lane : Fin 4
  blank : Bool
  packet : Packet
  deriving DecidableEq, Repr

/-! ### The whole state -/

/-- The state of the part. -/
structure State where
  /-- The commands and events that wait, the next one first (the model's own). -/
  pending : List Instr
  /-- Whether the reset line is held (R208). -/
  resetHeld : Bool
  inputA : InputState
  inputB : InputState
  /-- The stream map (section 1.2), at most 96 entries. -/
  map : List MapEntry
  keySections : SectionRecord
  grantSections : SectionRecord
  timeSections : SectionRecord
  guideSections : SectionRecord
  /-- The service table (R19), at most 64 records. -/
  services : List Service
  lanes : Vector Lane 6
  surveys : Vector SurveyTable 6
  /-- The key slots (section 5.1); `none` is a free slot. -/
  slots : Vector (Option KeySlot) 16
  /-- The vote depth n (R81). -/
  voteDepth : Nat
  entitlement : Entitlement
  /-- The unit address (R206), `none` while unset. -/
  unitAddress : Option Word32
  clock : Clock
  /-- The tick phase (R121), 0 to 9. -/
  tickPhase : Nat
  /-- Whether the second event of the latest tick event has been handled within it (the model's own; log
  entry 6). -/
  secondTaken : Bool
  guide : Guide
  timers : Vector Timer 24
  profiles : Vector Profile 4
  arbiters : Vector Arbiter 2
  /-- The notice pending list (R203). -/
  notices : List Notice
  /-- The return queue (R201), head first. -/
  returnQueue : List ReturnPacket
  /-- The return count (R202). -/
  returnCount : BitVec 4
  /-- What the return port is SENDING, `none` while FREE (R201). -/
  returnPort : Option ReturnPacket
  /-- What each decoder output is SENDING, `none` while FREE (R58). -/
  decoders : Vector (Option Packet) 2
  /-- What the recorder output is SENDING, `none` while FREE (R59). -/
  recorder : Option RecorderFrame
  /-- The arbiter's last granted (R59), counted from lane 2. -/
  lastGranted : Fin 4
  /-- The ready lines of the devices fed, as last sampled (R58, R59, R201). -/
  decoderReady : Vector Bool 2
  recorderReady : Bool
  returnReady : Bool
  /-- How many free values have been drawn (the model's own). -/
  draws : Nat
  deriving DecidableEq, Repr

/-- No command or event of the part ends in a fault: the manual names none that stops the part. -/
inductive Fault
  deriving DecidableEq, Repr

/-- Why a step gives no next state. -/
inductive Refusal where
  /-- Raised by `exec` for a command that has no meaning in the model (none is left). Safe: the model
  stops where the part goes on. -/
  | notModelled (mnemonic : String)
  /-- Raised by PORT_C_PACKET_DROP with a packet that R3 does not drop: no such event occurs (log entry
  7). Safe: the model stops. -/
  | notADroppedPacket
  /-- Raised by UNKNOWN_COMMAND with a packet that R3 drops or R198 does not answer UNKNOWN: no such event
  occurs (log entry 7). Safe: the model stops. -/
  | notAnUnknownCommand
  deriving DecidableEq, Repr

/-! ### Values at power-on -/

/-- A lane after power-on (R45, R62). -/
def Lane.powerOn : Lane where
  state := .idle
  step := none
  service := none
  input := none
  profile := none
  ceiling := 8
  dwell := 30
  silenceLimit := 20
  holdAtEnd := false
  health := 0
  ticks := 0
  signalTick := none
  keyTick := none
  entryTick := none
  silence := 0
  errors := 0
  overruns := 0
  autoStop := none
  override := none
  copy := none
  lastChange := none
  lastRefusal := none
  reasons := {}
  gate := .hold
  buffer := .empty

/-- A section record after power-on (R17). -/
def SectionRecord.powerOn : SectionRecord := ⟨0, 0, none, none⟩

/-- A result table after power-on (R64). -/
def SurveyTable.powerOn : SurveyTable := ⟨.none, none, []⟩

/-- The entitlement block after power-on (R119). -/
def Entitlement.powerOn : Entitlement where
  grants := []
  log := []
  nextSequence := 1
  spent := 0
  ceiling := 0
  applied := 0
  malformed := 0
  dropped := 0
  lastDropped := none
  lastChange := none

/-- The clock after power-on (R135). -/
def Clock.powerOn : Clock where
  valid := false
  now := 0
  zone := 0
  dstStart := 0
  dstEnd := 0
  dstDelta := 0
  pendingStep := none
  previousIndex := none
  previousDay := none
  accepted := 0
  malformed := 0
  steps := 0
  unconfirmed := 0
  lastChange := none
  lastStep := none

/-- The guide after power-on (R137). -/
def Guide.powerOn : Guide := ⟨[], 0, 0, 0, 0, 0, 0, 0⟩

/-- A timer after power-on (R148). -/
def Timer.powerOn : Timer where
  isSet := false
  weekday := some 0
  hour := some 0
  minute := some 0
  action := .remind
  display := 0
  lane := 2
  service := 1
  duration := 1
  repeats := false
  lastFired := none
  lastOutcome := none
  lastCause := none

/-- A profile after power-on (R159). -/
def Profile.powerOn : Profile where
  pin := none
  purchaseAllowed := false
  ceiling := 15
  unrated := .allow
  windowStart := 0
  windowEnd := 0
  budget := 1440
  used := 0
  extension := 0
  recordedDay := none
  failures := 0
  lockout := 0
  period := 0
  lastChange := none

/-- A report set that reports nothing (R193). -/
def ReportSet.nothing : ReportSet := ⟨false, false, false, []⟩

/-- A prompt arbiter after power-on (R195). -/
def Arbiter.powerOn : Arbiter where
  entries := Vector.replicate 8 ⟨.absent, false, {}⟩
  stack := []
  lowest := 7
  autoRotate := false
  report := .nothing

/-- The part in its power-on state with the reset line held (R208 and the reset values of each chapter).
The sampled ready lines are dropped (log entry 8). -/
def State.powerOn : State where
  pending := []
  resetHeld := true
  inputA := ⟨.inSync, none⟩
  inputB := ⟨.inSync, none⟩
  map := []
  keySections := .powerOn
  grantSections := .powerOn
  timeSections := .powerOn
  guideSections := .powerOn
  services := []
  lanes := Vector.replicate 6 .powerOn
  surveys := Vector.replicate 6 .powerOn
  slots := Vector.replicate 16 none
  voteDepth := 3
  entitlement := .powerOn
  unitAddress := none
  clock := .powerOn
  tickPhase := 0
  secondTaken := false
  guide := .powerOn
  timers := Vector.replicate 24 .powerOn
  profiles := Vector.replicate 4 .powerOn
  arbiters := Vector.replicate 2 .powerOn
  notices := []
  returnQueue := []
  returnCount := 0
  returnPort := none
  decoders := Vector.replicate 2 none
  recorder := none
  lastGranted := 3
  decoderReady := Vector.replicate 2 false
  recorderReady := false
  returnReady := false
  draws := 0

/-- The part right after reset: the power-on values of every block, the reset line released (R208: "When
it is released, port C raises its ready line and the first command may be taken"). -/
def State.reset : State := { State.powerOn with resetHeld := false }

end Sys2Proof.Machine
end

