-- ==== Sys2Proof/Machine/LocalTime.lean ====
section
/-!
DEFINITION. Local time (R129, R130), the parts of a minute index (R151), and the named bounds of the
manual's counts.
-/

namespace Sys2Proof.Machine

/-- The largest network second, 4,294,967,295 (spec/00, Conventions). -/
def maxTime : Nat := 4294967295

/-- A count raised by 1, stopping at `top` (spec/00: "saturating"). -/
def raise (top n : Nat) : Nat := if n < top then n + 1 else n

/-- Whether the daylight-saving window applies at N: S is less than E and S ≤ N < E (R129 step 1). -/
def Clock.windowApplies (c : Clock) : Bool :=
  decide (c.dstStart < c.dstEnd ∧ c.dstStart ≤ c.now ∧ c.now < c.dstEnd)

/-- Raw local time L′, exactly, as a signed number (R129 step 1). -/
def Clock.rawLocal (c : Clock) : Int :=
  c.now + 60 * c.zone + (if c.windowApplies then 60 * (c.dstDelta : Int) else 0)

/-- Local time L: L′ held at 0 and at the largest network second (R129 step 2, R130). -/
def Clock.localTime (c : Clock) : Nat :=
  if c.rawLocal < 0 then 0 else if c.rawLocal > maxTime then maxTime else c.rawLocal.toNat

/-- The day number D (R129 step 3). -/
def Clock.day (c : Clock) : Nat := c.localTime / 86400

/-- The minute of the day M (R129 steps 4 and 5). -/
def Clock.minuteOfDay (c : Clock) : Nat := c.localTime % 86400 / 60

/-- The minute index I (R129 step 8). -/
def Clock.minuteIndex (c : Clock) : Nat := 1440 * c.day + c.minuteOfDay

/-- The weekday of a minute index: 0 Monday to 6 Sunday (R129 step 7, R151). -/
def indexWeekday (j : Nat) : Nat := j / 1440 % 7

/-- The hour of a minute index (R129 step 6, R151). -/
def indexHour (j : Nat) : Nat := j % 1440 / 60

/-- The minute within the hour of a minute index (R129 step 6, R151). -/
def indexMinute (j : Nat) : Nat := j % 1440 % 60

/-- The end of a guide entry: start plus 60 times the duration, held at the largest second (R136). -/
def GuideEntry.stop (g : GuideEntry) : Nat := min (g.start + 60 * g.duration) maxTime

/-- Two entries overlap when each starts before the other ends (R136). -/
def GuideEntry.overlaps (a b : GuideEntry) : Bool := decide (a.start < b.stop ∧ b.start < a.stop)

/-- Whether an entry's interval holds a second (R136). -/
def GuideEntry.holds (g : GuideEntry) (t : Nat) : Bool := decide (g.start ≤ t ∧ t < g.stop)

end Sys2Proof.Machine
end

