-- ==== Sys2Proof/Machine/Ops.lean ====
section
/-!
DEFINITION. The named operations over the state's tables, and an event in progress. The manual works out
gates, prompts, the eligible sets and the order of notices "at the close of each event" (R49, R182, R187,
R203), so an operation of a block acts on an `Ev`: the state before the event, the state so far, the
notices raised so far and the displays whose level prompts were withdrawn.
-/

namespace Sys2Proof.Machine

/-! ### The tables of the state -/

/-- Every lane, in lane order. -/
def allLanes : List (Fin 6) := [0, 1, 2, 3, 4, 5]

/-- The viewing lanes (spec/00, Numbering). -/
def viewingLanes : List (Fin 6) := [0, 1]

/-- Every key slot, in rising number. -/
def allSlots : List (Fin 16) := [0, 1, 2, 3, 4, 5, 6, 7, 8, 9, 10, 11, 12, 13, 14, 15]

/-- Every timer, in rising number. -/
def allTimers : List (Fin 24) :=
  [0, 1, 2, 3, 4, 5, 6, 7, 8, 9, 10, 11, 12, 13, 14, 15, 16, 17, 18, 19, 20, 21, 22, 23]

/-- Every profile, in rising number. -/
def allProfiles : List (Fin 4) := [0, 1, 2, 3]

/-- The displays. -/
def allDisplays : List (Fin 2) := [0, 1]

/-- The six level kinds (R180). -/
def levelKinds : List (Fin 8) := [0, 1, 2, 3, 4, 5]

/-- Every prompt kind. -/
def allKinds : List (Fin 8) := [0, 1, 2, 3, 4, 5, 6, 7]

/-- The lane with a number, `none` above 5. -/
def laneOf (n : Nat) : Option (Fin 6) := if h : n < 6 then some ⟨n, h⟩ else none

/-- The display with a number, `none` above 1. -/
def displayOf (n : Nat) : Option (Fin 2) := if h : n < 2 then some ⟨n, h⟩ else none

/-- The profile with a number, `none` above 3. -/
def profileOf (n : Nat) : Option (Fin 4) := if h : n < 4 then some ⟨n, h⟩ else none

/-- The timer with a number, `none` above 23. -/
def timerOf (n : Nat) : Option (Fin 24) := if h : n < 24 then some ⟨n, h⟩ else none

/-- The key slot with a number, `none` above 15. -/
def slotOf (n : Nat) : Option (Fin 16) := if h : n < 16 then some ⟨n, h⟩ else none

/-- The prompt kind with a number, `none` above 7. -/
def kindOf (n : Nat) : Option (Fin 8) := if h : n < 8 then some ⟨n, h⟩ else none

/-- The input with a number: 0 A, 1 B (section 11.8), `none` above 1. -/
def inputOf (n : Nat) : Option Input := if n = 0 then some .a else if n = 1 then some .b else none

/-- The lane of a display (R180): lane 0 for display 0, lane 1 for display 1. -/
def laneOfDisplay (d : Fin 2) : Fin 6 := ⟨d.val, by omega⟩

/-- The display of a lane: lanes 0 and 1 are tied to displays 0 and 1 (spec/00, Numbering). -/
def displayOfLane (i : Fin 6) : Option (Fin 2) := displayOf i.val

/-- The lane that a recording lane counted from 0 is: 2 to 5. -/
def recordingLane (r : Fin 4) : Fin 6 := ⟨r.val + 2, by omega⟩

/-- Lane `i` with its record changed. -/
def State.modLane (s : State) (i : Fin 6) (f : Lane → Lane) : State :=
  { s with lanes := s.lanes.set i.val (f s.lanes[i]) i.isLt }

/-- The result table of lane `i` changed. -/
def State.modSurvey (s : State) (i : Fin 6) (f : SurveyTable → SurveyTable) : State :=
  { s with surveys := s.surveys.set i.val (f s.surveys[i]) i.isLt }

/-- Key slot `k` set. -/
def State.setSlot (s : State) (k : Fin 16) (slot : Option KeySlot) : State :=
  { s with slots := s.slots.set k.val slot k.isLt }

/-- Key slot `k` changed, if it is allocated. -/
def State.modSlot (s : State) (k : Fin 16) (f : KeySlot → KeySlot) : State :=
  s.setSlot k (s.slots[k].map f)

/-- Timer `t` changed. -/
def State.modTimer (s : State) (t : Fin 24) (f : Timer → Timer) : State :=
  { s with timers := s.timers.set t.val (f s.timers[t]) t.isLt }

/-- Profile `p` changed. -/
def State.modProfile (s : State) (p : Fin 4) (f : Profile → Profile) : State :=
  { s with profiles := s.profiles.set p.val (f s.profiles[p]) p.isLt }

/-- The arbiter of display `d` changed. -/
def State.modArbiter (s : State) (d : Fin 2) (f : Arbiter → Arbiter) : State :=
  { s with arbiters := s.arbiters.set d.val (f s.arbiters[d]) d.isLt }

/-- The entry of prompt kind `k` changed. -/
def Arbiter.modEntry (a : Arbiter) (k : Fin 8) (f : PromptEntry → PromptEntry) : Arbiter :=
  { a with entries := a.entries.set k.val (f a.entries[k]) k.isLt }

/-- What the intake keeps for an input. -/
def State.input (s : State) : Input → InputState
  | .a => s.inputA
  | .b => s.inputB

/-- What the intake keeps for an input, changed. -/
def State.modInput (s : State) (i : Input) (f : InputState → InputState) : State :=
  match i with
  | .a => { s with inputA := f s.inputA }
  | .b => { s with inputB := f s.inputB }

/-- The section record of a kind. -/
def State.sectionRecord (s : State) : SectionKind → SectionRecord
  | .key => s.keySections
  | .grant => s.grantSections
  | .time => s.timeSections
  | .guide => s.guideSections

/-- The section record of a kind, changed. -/
def State.modSectionRecord (s : State) (k : SectionKind) (f : SectionRecord → SectionRecord) : State :=
  match k with
  | .key => { s with keySections := f s.keySections }
  | .grant => { s with grantSections := f s.grantSections }
  | .time => { s with timeSections := f s.timeSections }
  | .guide => { s with guideSections := f s.guideSections }

/-- The service record of a number (R19). -/
def State.service? (s : State) (number : Nat) : Option Service :=
  s.services.find? fun r => r.number == number

/-- The service record of what a lane carries (R19). -/
def State.laneService? (s : State) (i : Fin 6) : Option Service :=
  s.lanes[i].service.bind s.service?

/-- Whether a lane uses a service: it is not IDLE and the service is the one it carries (R19). -/
def State.serviceInUse (s : State) (number : Nat) : Bool :=
  allLanes.any fun i => s.lanes[i].state != .idle && s.lanes[i].service == some number

/-! ### Free values -/

/-- One free value drawn: the counter advances. -/
def State.draw (s : State) : State := { s with draws := s.draws + 1 }

/-- A free choice between two orders (log entry 2). -/
def freeChoice (draw : Nat) : Bool := Config.pick draw 0 % 2 == 1

/-- A list in a free order: every order of its members is one that the free value may give (log entry 2). -/
def freeOrder {α : Type} (draw : Nat) : List α → List α
  | [] => []
  | [x] => [x]
  | x :: y :: rest => (freeOrder draw (y :: rest)).insertIdx (Config.pick draw rest.length % (rest.length + 2)) x

/-! ### An event in progress -/

/-- An event in progress. -/
structure Ev where
  /-- The state before the event, with which gates and prompts are compared at the close. -/
  before : State
  /-- The state so far. -/
  now : State
  /-- The notices raised so far. -/
  raised : List Notice
  /-- The displays whose level prompts a tune or an untune has withdrawn (R185). -/
  withdrawn : List (Fin 2)
  /-- The slot references given up within the event: the lane, and the input and key stream of its slot (R78). -/
  gave : List (Fin 6 × Input × Nat) := []
  /-- The input and key stream of each slot that a lane has given up and then taken again (R78). -/
  retaken : List (Input × Nat) := []
  /-- The slots that are not freed when their last user leaves, since a lane that gives its reference up takes it
  again later in the event (R78). -/
  keep : List (Input × Nat) := []

/-- The beginning of an event. -/
def Ev.start (s : State) : Ev where
  before := s
  now := s
  raised := []
  withdrawn := []

/-- An event in which the state changes and no notice is raised. -/
def Ev.on (e : Ev) (f : State → State) : Ev := { e with now := f e.now }

/-- A notice raised (R203). -/
def Ev.notice (e : Ev) (n : Notice) : Ev := { e with raised := n :: e.raised }

/-- A notice raised if a condition holds. -/
def Ev.noticeIf (e : Ev) (c : Bool) (n : Notice) : Ev := if c then e.notice n else e

/-- Lane `i` changed, with a LANE notice when the change calls for one (R42). -/
def Ev.lane (e : Ev) (i : Fin 6) (f : Lane → Lane × Bool) : Ev :=
  let r := f e.now.lanes[i]
  (e.on fun s => s.modLane i fun _ => r.1).noticeIf r.2 (.lane i)

/-! ### Notices (R203) -/

/-- Every notice kind and subject, in rising notice kind value and, within one kind, rising subject
(R203, R205). There are 48. -/
def allNotices : List Notice :=
  allLanes.map .lane ++ allLanes.map .survey ++ allDisplays.map .prompt ++ allTimers.map .timer ++
    [.clock, .grant] ++ [.sections .key, .sections .grant, .sections .time, .sections .guide] ++
    allProfiles.map .profile

/-- The notices first raised within one event, in the order in which they are appended: those raised and
not yet in the pending list (R203). -/
def newNotices (held raised : List Notice) : List Notice :=
  allNotices.filter fun n => raised.contains n && !held.contains n

/-! ### The return queue (R201, R202) -/

/-- Free places of the return queue. -/
def State.returnFree (s : State) : Nat := 16 - s.returnQueue.length

/-- Port C's ready line: asserted while the return queue has a free place, dropped while the reset line
is held (R197). -/
def State.portCReady (s : State) : Bool := !s.resetHeld && decide (s.returnQueue.length < 16)

/-- A packet placed at the tail of the return queue: it takes the return count, which then rises by 1
modulo 16 (R202). The free value of its absent fields is drawn with it. -/
def State.enqueue (s : State) (body : ReturnBody) : State :=
  { s with
    returnQueue := s.returnQueue ++ [⟨s.returnCount, body⟩]
    returnCount := s.returnCount + 1
    draws := s.draws + 1 }

end Sys2Proof.Machine
end

