-- ==== Sys2Proof/Machine/Gate.lean ====
section
/-!
DEFINITION. The gate and the hand-off buffer (spec/03): the reason set, the working-out of the gate state
(R48, R49, R52), the disposal of an offered packet (R50, R51, R56), and the health of a lane (R31 to R34),
on one lane record.
-/

namespace Sys2Proof.Machine

/-- Whether a blank reason is present (R47). -/
def Reasons.anyBlank (r : Reasons) : Bool := r.hostBlank || r.rating || r.window || r.budget || r.access

/-- Whether a hold reason is present (R47). -/
def Reasons.anyHold (r : Reasons) : Bool := r.hostHold || r.acquire || r.degrade

/-- The gate state that the lane state and the reason set call for: the first line of R48 that applies. -/
def Lane.gateTarget (l : Lane) : GateState :=
  if l.reasons.anyBlank then .blank
  else if l.reasons.anyHold || l.state != .passing then .hold
  else if l.gate = .pass then .pass
  else .releasing

/-- The buffer after an entry into a gate state (R52): HOLD and BLANK discard a programme packet, and BLANK
then places one blank order. -/
def Buffer.atEntry (b : Buffer) : GateState → Buffer
  | .hold => match b with
    | .programme _ => .empty
    | other => other
  | .blank => .blankOrder
  | .releasing => b
  | .pass => b

/-- The gate works out its state (R49); a difference is an entry (R52). -/
def Lane.workOut (l : Lane) : Lane :=
  if l.gateTarget = l.gate then l
  else { l with gate := l.gateTarget, buffer := l.buffer.atEntry l.gateTarget }

/-- The gate at the close of an event: worked out when the event changed the lane's state or reason set
(R49). -/
def Lane.closeGate (before now : Lane) : Lane :=
  if now.state = before.state ∧ now.reasons = before.reasons then now else now.workOut

/-! ### Health (R31 to R34) -/

/-- Entry into DEGRADED (R32). -/
def Lane.degrade (l : Lane) : Lane :=
  { l with state := .degraded, reasons := { l.reasons with degrade := true }, lastChange := some .degraded }

/-- Recovery from DEGRADED (R33). -/
def Lane.recover (l : Lane) : Lane :=
  { l with state := .passing, reasons := { l.reasons with degrade := false }, silence := 0,
           lastChange := some .recovered }

/-- A good event (R32, R33, R69); the Bool says whether a LANE notice is raised. -/
def Lane.goodEvent (l : Lane) : Lane × Bool :=
  match l.state with
  | .passing => ({ l with health := raise l.ceiling l.health }, false)
  | .surveying => ({ l with health := raise l.ceiling l.health }, false)
  | .degraded =>
    let up := { l with health := raise l.ceiling l.health }
    if up.health = l.ceiling then (up.recover, true) else (up, false)
  | .idle => (l, false)
  | .acquiring => (l, false)
  | .stalled => (l, false)
  | .lost => (l, false)

/-- A bad event (R32, R33, R69); the Bool says whether a LANE notice is raised. -/
def Lane.badEvent (l : Lane) : Lane × Bool :=
  match l.state with
  | .passing =>
    let down := { l with health := l.health - 1 }
    if down.health = 0 then (down.degrade, true) else (down, false)
  | .surveying => ({ l with health := l.health - 1 }, false)
  | .degraded => ({ l with health := l.health - 1 }, false)
  | .idle => (l, false)
  | .acquiring => (l, false)
  | .stalled => (l, false)
  | .lost => (l, false)

/-- An error report (R31): the error count rises in every state other than IDLE, and the report is one bad
event. -/
def Lane.errorReport (l : Lane) : Lane × Bool :=
  if l.state = .idle then (l, false) else { l with errors := raise 65535 l.errors }.badEvent

/-- An overrun (R56, R57): the overrun count rises and the overrun is one bad event; when that changes the
lane, the gate works out its state once more (R49). -/
def Lane.overrun (l : Lane) : Lane × Bool :=
  let r := { l with overruns := raise 65535 l.overruns }.badEvent
  (Lane.closeGate l r.1, r.2)

/-! ### Disposal of a packet (R50, R51, R56) -/

/-- A programme packet handed off to the buffer (R56). -/
def Lane.handOff (l : Lane) (p : Packet) : Lane × Bool :=
  match l.buffer with
  | .programme _ => { l with buffer := .programme p }.overrun
  | .empty => ({ l with buffer := .programme p }, false)
  | .blankOrder => ({ l with buffer := .programme p }, false)

/-- A packet offered to the gate (R50); `release` says that it is a lead packet with outcome ACCEPTED and
the entry-point flag set (R51). -/
def Lane.offer (l : Lane) (p : Packet) (release : Bool) : Lane × Bool :=
  match l.gate with
  | .pass => l.handOff p
  | .releasing => if release then { l with gate := .pass }.handOff p else (l, false)
  | .hold => (l, false)
  | .blank => (l, false)

end Sys2Proof.Machine
end

