-- ==== Sys2Proof/Machine/Prompts.lean ====
section
/-!
DEFINITION. The prompt arbiters (spec/10): causes and contexts of the level kinds (R180, R181), raises,
clears and withdrawals (R182 to R185), priority and the eligible set (R186, R187), and the ending of a kind
with its rotation (R188, R189).
-/

namespace Sys2Proof.Machine

/-- Whether a lane's copy has a price above 0 (R180, kinds 3 and 4). -/
def Lane.forSale (l : Lane) : Bool :=
  match l.copy with
  | some g => decide (0 < g.price)
  | none => false

/-- The cause of a level kind, read from the display's viewing lane (R180). -/
def Lane.causes (l : Lane) (k : Fin 8) : Bool :=
  match k.val with
  | 0 => l.reasons.rating
  | 1 => l.reasons.budget
  | 2 => l.reasons.window
  | 3 => l.reasons.access && l.forSale
  | 4 => l.reasons.access && !l.forSale
  | 5 => l.state == .stalled || l.state == .lost || l.state == .degraded
  | _ => false

/-- The context of a level kind, taken from the display's viewing lane (R181). -/
def Lane.context (l : Lane) (i : Fin 6) : PromptContext where
  lane := some i.val
  service := l.service
  event := l.copy.map (·.event)
  profile := l.profile.map (·.val)
  rating := l.copy.map (·.rating)
  price := l.copy.map (·.price)
  timer := none

/-- The context with which a level kind stands, or none when its cause does not last (R182). -/
def State.level (s : State) (d : Fin 2) (k : Fin 8) : Option PromptContext :=
  let i := laneOfDisplay d
  if s.lanes[i].causes k then some (s.lanes[i].context i) else none

/-! ### Priority and eligibility (R186, R187) -/

/-- The rank of a kind: the remainder of k minus the lowest kind minus 1, modulo 8; lower is higher
priority (R186). -/
def rank (lowest k : Fin 8) : Nat := (k.val + 7 - lowest.val) % 8

/-- Whether a kind is eligible: PENDING, unmasked, and of higher priority than every kind in the stack
(R187). -/
def Arbiter.isEligible (a : Arbiter) (k : Fin 8) : Bool :=
  a.entries[k].state == .pending && !a.entries[k].masked &&
    a.stack.all fun j => decide (rank a.lowest k < rank a.lowest j)

/-- The eligible set, highest priority first: the kinds are read along the cycle from the one after the
lowest kind (R186, R187). -/
def Arbiter.eligible (a : Arbiter) : List (Fin 8) :=
  ([1, 2, 3, 4, 5, 6, 7, 8].map fun n => Fin.ofNat 8 (a.lowest.val + n)).filter a.isEligible

/-- The kind at the top of the stack (R187: the stack is kept bottom first). -/
def Arbiter.top (a : Arbiter) : Option (Fin 8) := a.stack.getLast?

/-! ### Raises and clears (R183, R184) -/

/-- A raise of a kind with a context (R183); the Bool says whether a PROMPT notice is raised. -/
def Arbiter.raiseKind (a : Arbiter) (k : Fin 8) (c : PromptContext) : Arbiter × Bool :=
  let old := a.entries[k]
  match old.state with
  | .absent => (a.modEntry k fun en => { en with state := .pending, context := c }, false)
  | .pending => (a.modEntry k fun en => { en with context := c }, false)
  | .inService =>
    if old.context = c then (a, false)
    else ({ a.modEntry k fun en => { en with context := c } with
              report := { a.report with context := true } }, true)
  | .dismissed =>
    if c.lane ≠ old.context.lane ∨ c.service ≠ old.context.service ∨ c.event ≠ old.context.event then
      (a.modEntry k fun en => { en with state := .pending, context := c }, false)
    else (a.modEntry k fun en => { en with context := c }, false)

/-- A clear of a level kind, and its withdrawal when it is IN_SERVICE (R184). -/
def Arbiter.clearKind (a : Arbiter) (k : Fin 8) : Arbiter × Bool :=
  match a.entries[k].state with
  | .absent => (a, false)
  | .pending => (a.modEntry k fun en => { en with state := .absent }, false)
  | .dismissed => (a.modEntry k fun en => { en with state := .absent }, false)
  | .inService =>
    ({ a.modEntry k fun en => { en with state := .absent } with
         stack := a.stack.filter (· != k)
         report := { a.report with
           withdrawn := true
           kinds := if a.report.kinds.contains k then a.report.kinds else a.report.kinds ++ [k] } }, true)

/-- The arbiter of display `d` changed within an event, with a PROMPT notice when the change calls for
one (R193). -/
def Ev.arbiter (e : Ev) (d : Fin 2) (f : Arbiter → Arbiter × Bool) : Ev :=
  let r := f e.now.arbiters[d]
  (e.on fun s => s.modArbiter d fun _ => r.1).noticeIf r.2 (.prompt d)

/-- The withdrawal of every level kind of a display by a tune or an untune of its lane (R185). -/
def Ev.withdrawLevels (e : Ev) (d : Fin 2) : Ev :=
  let e := levelKinds.foldl (fun e k => e.arbiter d fun a => a.clearKind k) e
  { e with withdrawn := d :: e.withdrawn }

/-- What the close of an event does to one level kind (R182): a raise when its cause has begun or its
context differs, a clear when its cause has ended. After a withdrawal of R185 a kind whose cause stands
is raised whatever stood before the event. -/
def Ev.followLevel (e : Ev) (d : Fin 2) (k : Fin 8) : Ev :=
  let old := if e.withdrawn.contains d then none else e.before.level d k
  match old, e.now.level d k with
  | none, none => e
  | none, some c => e.arbiter d fun a => a.raiseKind k c
  | some _, none => e.arbiter d fun a => a.clearKind k
  | some b, some c => if b = c then e else e.arbiter d fun a => a.raiseKind k c

/-- The level kinds of a display followed at the close of an event, in rising kind (R182). -/
def Ev.followLevels (e : Ev) (d : Fin 2) : Ev := levelKinds.foldl (fun e k => e.followLevel d k) e

/-- The eligible set of a display at the close of an event: ELIGIBLE and a PROMPT notice when it has
changed from empty to non-empty (R187, R193). -/
def Ev.followEligible (e : Ev) (d : Fin 2) : Ev :=
  if e.before.arbiters[d].eligible.isEmpty && !e.now.arbiters[d].eligible.isEmpty then
    e.arbiter d fun a => ({ a with report := { a.report with eligible := true } }, true)
  else e

/-! ### Polling and ending (R188, R189) -/

/-- The push of a polled kind (R188). -/
def Arbiter.push (a : Arbiter) (k : Fin 8) : Arbiter :=
  { a.modEntry k fun en => { en with state := .inService } with stack := a.stack ++ [k] }

/-- Whether the ended kind stood at the top or at the bottom of the stack (R189). -/
def Arbiter.atEdge (a : Arbiter) (k : Fin 8) : Bool := a.stack.head? == some k || a.stack.getLast? == some k

/-- The ending of an IN_SERVICE kind: removed from the stack, DISMISSED when it is a level kind whose cause
lasts and ABSENT otherwise (R188), and the rotation of R189. -/
def Arbiter.endKind (a : Arbiter) (k : Fin 8) (causeLasts : Bool) : Arbiter :=
  let state := if decide (k.val ≤ 5) && causeLasts then PromptState.dismissed else .absent
  { a.modEntry k fun en => { en with state := state } with
    stack := a.stack.filter (· != k)
    lowest := if a.autoRotate && a.atEdge k then k else a.lowest }

end Sys2Proof.Machine
end

