-- ==== Sys2Proof/Machine/Close.lean ====
section
/-!
DEFINITION. The close of an event: every gate whose lane changed works out its state (R49), the arbiters
follow their lanes (R182), the eligible sets are worked out (R187), and the notices raised enter the
pending list in their order (R203).
-/

namespace Sys2Proof.Machine

/-- The gates at the close of an event (R49). -/
def Ev.closeGates (e : Ev) : Ev :=
  e.on fun s => { s with lanes := Vector.ofFn fun i => Lane.closeGate e.before.lanes[i] s.lanes[i] }

/-- The prompts at the close of an event (R182, R187). -/
def Ev.closePrompts (e : Ev) : Ev :=
  let e := allDisplays.foldl (fun e d => e.followLevels d) e
  allDisplays.foldl (fun e d => e.followEligible d) e

/-- The state at the close of an event. -/
def Ev.close (e : Ev) : State :=
  let e := e.closeGates.closePrompts
  { e.now with notices := e.now.notices ++ newNotices e.now.notices e.raised }

end Sys2Proof.Machine
end

