-- ==== Sys2Proof/Machine/Profiles.lean ====
section
/-!
DEFINITION. The profile block (spec/09): the evaluation of the parental reasons (R162 to R166), the day check
(R169), the counting of used seconds (R170), the second event of a profile (R168), and PIN checks (R172).
-/

namespace Sys2Proof.Machine

/-- A window whose start differs from its end (R158). -/
def Profile.restricted (p : Profile) : Bool := p.windowStart != p.windowEnd

/-- The limit, 60 × B + X seconds (R158). -/
def Profile.limit (p : Profile) : Nat := 60 * p.budget + p.extension

/-- A budget below 1440 (R158). -/
def Profile.limited (p : Profile) : Bool := decide (p.budget < 1440)

/-- A limited budget whose limit is used up (R158). -/
def Profile.reached (p : Profile) : Bool := p.limited && decide (p.limit ≤ p.used)

/-- Whether a minute of the day lies inside the window (R165). -/
def Profile.inWindow (p : Profile) (m : Nat) : Bool :=
  if p.windowStart < p.windowEnd then decide (p.windowStart ≤ m ∧ m < p.windowEnd)
  else decide (p.windowStart ≤ m ∨ m < p.windowEnd)

/-- The states of an evaluated lane (R162). -/
def LaneState.evaluated : LaneState → Bool
  | .acquiring => true
  | .stalled => true
  | .passing => true
  | .degraded => true
  | .idle => false
  | .lost => false
  | .surveying => false

/-- Whether a lane's programme override matches its copy (R164). -/
def Lane.overrideMatches (l : Lane) : Bool :=
  match l.override, l.copy with
  | some (.event id), some g => id == g.event
  | some .unguided, none => true
  | some (.event _), none => false
  | some .unguided, some _ => false
  | none, _ => false

/-- Whether the programme fails the profile's rating test (R163). -/
def Lane.failsRating (l : Lane) (p : Profile) : Bool :=
  match l.copy with
  | some g => decide (p.ceiling < g.rating)
  | none => p.unrated == .block

/-- The condition of RATING (R163). -/
def Lane.ratingHolds (l : Lane) (p : Profile) : Bool :=
  !l.overrideMatches && decide (p.period = 0) && l.failsRating p

/-- The condition of WINDOW (R165). -/
def Profile.windowHolds (p : Profile) (c : Clock) : Bool :=
  p.restricted && decide (p.period = 0) && (!c.valid || !p.inWindow c.minuteOfDay)

/-- The evaluation of a viewing lane against its profile (R162): each of the three reasons is set or cleared
as its condition says. A lane that is not evaluated is left as it is. -/
def State.evaluate (s : State) (i : Fin 6) : State :=
  match s.lanes[i].profile with
  | none => s
  | some p =>
    if s.lanes[i].state.evaluated && decide (i.val < 2) then
      s.modLane i fun l => { l with reasons := { l.reasons with
        rating := l.ratingHolds s.profiles[p]
        window := s.profiles[p].windowHolds s.clock
        budget := s.profiles[p].reached } }
    else s

/-- Every evaluated lane evaluated (R167 points 3 and 4). -/
def State.evaluateAll (s : State) : State := viewingLanes.foldl State.evaluate s

/-- Whether a viewing lane is an evaluated lane of a profile (R158, R162). -/
def Lane.evaluatedFor (l : Lane) (p : Fin 4) : Bool := l.state.evaluated && l.profile == some p

/-- The evaluated lanes of one profile evaluated (R160, R176, R177). -/
def State.evaluateProfile (s : State) (p : Fin 4) : State :=
  viewingLanes.foldl (fun s i => if s.lanes[i].evaluatedFor p then s.evaluate i else s) s

/-- A PROFILE notice with its cause (R178). -/
def Ev.profileChange (e : Ev) (p : Fin 4) (c : ProfileChange) : Ev :=
  (e.on fun s => s.modProfile p fun r => { r with lastChange := some c }).notice (.profile p)

/-- The evaluation for BUDGET alone that a day check makes on the lanes of a profile (R169). -/
def State.evaluateBudget (s : State) (p : Fin 4) : State :=
  viewingLanes.foldl (fun s i =>
    if s.lanes[i].evaluatedFor p then
      s.modLane i fun l => { l with reasons := { l.reasons with budget := s.profiles[p].reached } }
    else s) s

/-- Whether an evaluated lane of a profile carries BUDGET. -/
def State.carriesBudget (s : State) (p : Fin 4) (i : Fin 6) : Bool :=
  s.lanes[i].evaluatedFor p && s.lanes[i].reasons.budget

/-- The day check of a profile against day D (R169). -/
def Ev.dayCheck (e : Ev) (p : Fin 4) (day : Nat) : Ev :=
  match e.now.profiles[p].recordedDay with
  | none => e.on fun s => s.modProfile p fun r => { r with recordedDay := some day }
  | some d =>
    if d = day then e
    else
      let carried := viewingLanes.filter (e.now.carriesBudget p)
      let e := e.on fun s =>
        (s.modProfile p fun r => { r with used := 0, extension := 0, recordedDay := some day }).evaluateBudget p
      if carried.any fun i => !e.now.carriesBudget p i then e.profileChange p .dayReset else e

/-- Whether a viewing lane lets a second count (R170): PASSING or DEGRADED and no blank reason. -/
def Lane.countsSecond (l : Lane) (p : Fin 4) : Bool :=
  (l.state == .passing || l.state == .degraded) && l.profile == some p &&
    !(l.reasons.hostBlank || l.reasons.rating || l.reasons.window || l.reasons.budget || l.reasons.access)

/-- The count of used seconds of a profile (R170). -/
def Ev.countSecond (e : Ev) (p : Fin 4) : Ev :=
  if viewingLanes.any fun i => e.now.lanes[i].countsSecond p then
    let before := e.now.profiles[p]
    let e := e.on fun s => s.modProfile p fun r => { r with used := raise 86400 r.used }
    if before.limited && decide (before.used < before.limit) && e.now.profiles[p].reached then
      e.profileChange p .budgetReached
    else e
  else e

/-- A lockout counted down by one second event (R168 step 1, R173). -/
def Ev.lockoutSecond (e : Ev) (p : Fin 4) : Ev :=
  match e.now.profiles[p].lockout with
  | 0 => e
  | n + 1 =>
    let e := e.on fun s => s.modProfile p fun r => { r with lockout := n }
    if n = 0 then e.profileChange p .lockoutEnded else e

/-- A period override counted down by one second event (R168 step 2, R176). -/
def Ev.periodSecond (e : Ev) (p : Fin 4) : Ev :=
  match e.now.profiles[p].period with
  | 0 => e
  | n + 1 =>
    let e := e.on fun s => s.modProfile p fun r => { r with period := n }
    if n = 0 then e.profileChange p .periodEnded else e

/-- The second event at one profile, steps (1) to (4) of R168; `dayEvent` carries D when the second event
delivers a day event. -/
def Ev.profileSecond (e : Ev) (dayEvent : Option Nat) (p : Fin 4) : Ev :=
  let e := (e.lockoutSecond p).periodSecond p
  if e.now.clock.valid then
    let e := match dayEvent with
      | some d => e.dayCheck p d
      | none => e
    e.countSecond p
  else e

/-- The second event at the profile block (R168): each profile in rising number, then every evaluated lane
is evaluated. -/
def Ev.profilesSecond (e : Ev) (dayEvent : Option Nat) : Ev :=
  (allProfiles.foldl (fun e p => e.profileSecond dayEvent p) e).on State.evaluateAll

/-- What the profile block does at a step of network time (R171). -/
def Ev.profilesStep (e : Ev) : Ev :=
  (allProfiles.foldl (fun e p => e.dayCheck p e.now.clock.day) e).on State.evaluateAll

/-- Whether a given PIN matches a stored PIN (R172). -/
def Profile.pinMatches (p : Profile) (pin : Nat) : Bool := p.pin == some pin

/-- A correct PIN for a profile (R172). -/
def Ev.correctPin (e : Ev) (p : Fin 4) : Ev :=
  e.on fun s => s.modProfile p fun r => { r with failures := 0 }

/-- A wrong PIN for a profile: the failure counted, and the lockout begun at the third (R172). -/
def Ev.wrongPin (e : Ev) (p : Fin 4) : Ev :=
  if e.now.profiles[p].failures + 1 < 3 then
    e.on fun s => s.modProfile p fun r => { r with failures := r.failures + 1 }
  else
    (e.on fun s => s.modProfile p fun r => { r with failures := 0, lockout := 900 }).profileChange p .lockedOut

end Sys2Proof.Machine
end

