-- ==== Sys2Proof/Machine/Sections.lean ====
section
/-!
DEFINITION. The four section bodies (section 11.9) and the judgement of their form: R79 for KEY, R100 for
GRANT, R123 for TIME and R138 for GUIDE. Each reader answers `none` for a body that its rule ignores
whole.
-/

namespace Sys2Proof.Machine

/-- The wire code of a section kind: 1 KEY, 2 GRANT, 3 TIME, 4 GUIDE. -/
def SectionKind.code : SectionKind → Nat
  | .key => 1
  | .grant => 2
  | .time => 3
  | .guide => 4

/-- The number that two or four bytes spell. -/
def nat16 (hi lo : Byte) : Nat := (word16 hi lo).toNat

/-- The number that four bytes spell. -/
def nat32 (b3 b2 b1 b0 : Byte) : Nat := (word32 b3 b2 b1 b0).toNat

/-- A key entry of a KEY section (section 5.2). -/
structure KeyEntry where
  product : Nat
  phase : Phase
  value : Word64
  deriving DecidableEq, Repr

/-- The phase byte of a key entry: 2 EVEN, 3 ODD, and no other. -/
def phaseOfCode (b : Byte) : Option Phase :=
  if b = 2#8 then some .even else if b = 3#8 then some .odd else none

/-- Exactly `count` key entries and nothing more. -/
def parseKeyEntries : (count : Nat) → List Byte → Option (List KeyEntry)
  | 0, [] => some []
  | n + 1, pH :: pL :: phase :: k7 :: k6 :: k5 :: k4 :: k3 :: k2 :: k1 :: k0 :: rest =>
    match phaseOfCode phase, parseKeyEntries n rest with
    | some h, some more =>
      some (⟨nat16 pH pL, h, k7 ++ k6 ++ k5 ++ k4 ++ k3 ++ k2 ++ k1 ++ k0⟩ :: more)
    | _, _ => none
  | _, _ => none

/-- The body of a KEY section, judged as a whole (R79). -/
def parseKeyBody : List Byte → Option (List KeyEntry)
  | count :: rest =>
    if count.toNat = 1 ∨ count.toNat = 2 then parseKeyEntries count.toNat rest else none
  | [] => none

/-- A headend grant operation (section 6.2). -/
inductive GrantOp where
  | add (product start : Nat) (stop : Option Nat)
  | remove (product : Nat)
  | ceiling (value : Nat)
  | collect (sequence : Nat)
  deriving DecidableEq, Repr

/-- Exactly `count` whole operations of known types, each in form, and nothing more (R100). -/
def parseGrantOps : (count : Nat) → List Byte → Option (List GrantOp)
  | 0, [] => some []
  | n + 1, type :: a :: b :: rest =>
    if type = 1#8 then
      match rest with
      | s3 :: s2 :: s1 :: s0 :: present :: e3 :: e2 :: e1 :: e0 :: more =>
        if nat16 a b = 0 ∨ 1 < present.toNat then none
        else (parseGrantOps n more).map
          (.add (nat16 a b) (nat32 s3 s2 s1 s0) (if present = 1#8 then some (nat32 e3 e2 e1 e0) else none) :: ·)
      | _ => none
    else if type = 2#8 then
      if nat16 a b = 0 then none else (parseGrantOps n rest).map (.remove (nat16 a b) :: ·)
    else if type = 3#8 then (parseGrantOps n rest).map (.ceiling (nat16 a b) :: ·)
    else if type = 4#8 then (parseGrantOps n rest).map (.collect (nat16 a b) :: ·)
    else none
  | _, _ => none

/-- The body of a GRANT section: the unit address and 1 to 16 operations (R100). -/
def parseGrantBody : List Byte → Option (Word32 × List GrantOp)
  | a3 :: a2 :: a1 :: a0 :: count :: rest =>
    if 1 ≤ count.toNat ∧ count.toNat ≤ 16 then
      (parseGrantOps count.toNat rest).map fun ops => (word32 a3 a2 a1 a0, ops)
    else none
  | _ => none

/-- The body of a TIME section: message time, DST start, DST end and DST delta (R123). -/
structure TimeBody where
  time : Nat
  dstStart : Nat
  dstEnd : Nat
  dstDelta : Nat
  deriving DecidableEq, Repr

/-- Exactly the 13 bytes of a TIME body (R123). -/
def parseTimeBody : List Byte → Option TimeBody
  | [t3, t2, t1, t0, s3, s2, s1, s0, e3, e2, e1, e0, delta] =>
    some ⟨nat32 t3 t2 t1 t0, nat32 s3 s2 s1 s0, nat32 e3 e2 e1 e0, delta.toNat⟩
  | _ => none

/-- Exactly `count` guide entries of one service, each with a duration from 1 to 1440 and a rating from 0
to 15, and nothing more (R138). -/
def parseGuideEntries (service : Nat) : (count : Nat) → List Byte → Option (List GuideEntry)
  | 0, [] => some []
  | n + 1, evH :: evL :: s3 :: s2 :: s1 :: s0 :: dH :: dL :: rating :: pH :: pL :: cH :: cL :: rest =>
    if 1 ≤ nat16 dH dL ∧ nat16 dH dL ≤ 1440 ∧ rating.toNat ≤ 15 then
      (parseGuideEntries service n rest).map
        (⟨service, nat16 evH evL, nat32 s3 s2 s1 s0, nat16 dH dL, rating.toNat, nat16 pH pL, nat16 cH cL⟩ :: ·)
    else none
  | _, _ => none

/-- The body of a GUIDE section: a service and 1 to 24 entries (R138). -/
def parseGuideBody : List Byte → Option (Nat × List GuideEntry)
  | sH :: sL :: count :: rest =>
    if nat16 sH sL ≠ 0 ∧ 1 ≤ count.toNat ∧ count.toNat ≤ 24 then
      (parseGuideEntries (nat16 sH sL) count.toNat rest).map fun es => (nat16 sH sL, es)
    else none
  | _ => none

end Sys2Proof.Machine
end

