-- ==== Sys2Proof/Machine/Encode.lean ====
section
/-!
DEFINITION. Results and snapshots as bytes (section 11.8, R209): the codes of the choices, the fields of each
record in the order its rule lists them, and the packets of the return queue and the outputs (R202, section
11.9).
-/

namespace Sys2Proof.Machine

/-! ### Fields (R209) -/

/-- A field of a result or a snapshot. -/
inductive Field where
  /-- A value sent at its width. -/
  | num (width value : Nat)
  /-- A signed value in two's complement. -/
  | int (width : Nat) (value : Int)
  /-- A field that may be none, where the all-ones value lies outside its range. -/
  | ones (width : Nat) (value : Option Nat)
  /-- A field that may be none, preceded by a presence byte. -/
  | opt (width : Nat) (value : Option Nat)
  /-- A signed field that may be none, preceded by a presence byte. -/
  | optInt (width : Nat) (value : Option Int)
  /-- The programme override: none, an event id, or "unguided". -/
  | override (value : Option ProgrammeOverride)
  /-- The mark of a free slot. -/
  | freeSlot
  deriving DecidableEq, Repr

/-- A signed number in two's complement at a width. -/
def twosComplement (width : Nat) (v : Int) : Nat := (v % (256 ^ width : Nat)).toNat

/-- The bytes that stand in the place of an absent field: free values (R209, log entry 3). -/
def absentBytes (draw place width : Nat) : List Byte :=
  (List.range width).map fun i => Config.absentByte draw (place + i)

/-- A field as bytes; `place` is where it stands in the result and `draw` names the free values of this
packet. -/
def Field.bytes (draw place : Nat) : Field → List Byte
  | .num width value => bytesOfNat width value
  | .int width value => bytesOfNat width (twosComplement width value)
  | .ones width (some value) => bytesOfNat width value
  | .ones width none => List.replicate width 0xFF#8
  | .opt width (some value) => 1#8 :: bytesOfNat width value
  | .opt width none => 0#8 :: absentBytes draw (place + 1) width
  | .optInt width (some value) => 1#8 :: bytesOfNat width (twosComplement width value)
  | .optInt width none => 0#8 :: absentBytes draw (place + 1) width
  | .override none => 0#8 :: absentBytes draw (place + 1) 2
  | .override (some (.event id)) => 1#8 :: bytesOfNat 2 id
  | .override (some .unguided) => (List.range 3).map fun i => Config.unguidedByte draw (place + i)
  | .freeSlot => [Config.freeSlotMark draw]

/-- The fields of a result in order, from a place on (R200, R205). -/
def encodeFrom (draw : Nat) : (place : Nat) → List Field → List Byte
  | _, [] => []
  | place, f :: rest =>
    f.bytes draw place ++ encodeFrom draw (place + (f.bytes draw place).length) rest

/-- The fields of a result or snapshot in order (R200, R205). -/
def encode (draw : Nat) (fs : List Field) : List Byte := encodeFrom draw 0 fs

/-- A flag: 1 when it holds. -/
def flag (b : Bool) : Field := .num 1 (if b then 1 else 0)

/-! ### Codes of choices: their place in the list where the chapter gives them (R209, log entry 10) -/

/-- Inputs: 0 A, 1 B (section 11.8). -/
def inputCode : Input → Nat
  | .a => 0
  | .b => 1

/-- Lane states, in the order of the lane record table (section 2.3). The table of states in the same section lists
them in another order (STALLED third); that the record table numbers them is THE MODEL'S CHOICE (log entry 10). -/
def LaneState.code : LaneState → Nat
  | .idle => 0
  | .acquiring => 1
  | .passing => 2
  | .degraded => 3
  | .stalled => 4
  | .lost => 5
  | .surveying => 6

/-- Acquisition steps (section 2.3). -/
def AcquireStep.code : AcquireStep → Nat
  | .signal => 0
  | .key => 1
  | .entry => 2

/-- Lane changes; the list of section 2.3 begins with none. -/
def LaneChange.code : LaneChange → Nat
  | .tuned => 1
  | .passed => 2
  | .stalled => 3
  | .degraded => 4
  | .recovered => 5
  | .lost => 6
  | .reacquiring => 7
  | .reacquireRefused => 8
  | .autoStopped => 9
  | .heldAtEnd => 10
  | .untuned => 11

/-- Refusals of an installation; the lists of sections 2.3 and 4.1 begin with none. -/
def InstallRefusal.code : InstallRefusal → Nat
  | .conflict => 1
  | .full => 2

/-- Gate states, in the order in which section 3.2 introduces them. -/
def GateState.code : GateState → Nat
  | .hold => 0
  | .blank => 1
  | .releasing => 2
  | .pass => 3

/-- A reason set as one byte, each reason in its bit (R209). -/
def Reasons.toByte (r : Reasons) : Nat :=
  (if r.hostHold then 1 else 0) + (if r.hostBlank then 2 else 0) + (if r.acquire then 4 else 0) +
    (if r.degrade then 8 else 0) + (if r.rating then 16 else 0) + (if r.window then 32 else 0) +
    (if r.budget then 64 else 0) + (if r.access then 128 else 0)

/-- Component types: 0 VIDEO, 1 AUDIO, 2 DATA (R209). -/
def ComponentType.code : ComponentType → Nat
  | .video => 0
  | .audio => 1
  | .data => 2

/-- Survey statuses (section 4.1). -/
def SurveyStatus.code : SurveyStatus → Nat
  | .none => 0
  | .running => 1
  | .complete => 2
  | .aborted => 3

/-- Survey outcomes; the list of section 4.1 begins with none. -/
def SurveyOutcome.code : SurveyOutcome → Nat
  | .done => 1
  | .noSuch => 2
  | .notCarried => 3
  | .aborted => 4
  | .notReached => 5

/-- The phase in use: 0 NONE, 1 EVEN, 2 ODD (section 5.1). -/
def phaseCode : Option Phase → Nat
  | none => 0
  | some .even => 1
  | some .odd => 2

/-- Grant sources (section 6.1). -/
def GrantSource.code : GrantSource → Nat
  | .headend => 0
  | .purchase => 1

/-- Purchase states (section 6.3). -/
def PurchaseState.code : PurchaseState → Nat
  | .active => 0
  | .cancelled => 1

/-- Causes of the GRANT notice; the list of section 6.6 begins with none. -/
def GrantChange.code : GrantChange → Nat
  | .expired => 1
  | .headend => 2
  | .addDropped => 3

/-- Causes of the CLOCK notice; the list of section 7.7 begins with none. -/
def ClockChange.code : ClockChange → Nat
  | .valid => 1
  | .smallStep => 2
  | .largeStep => 3

/-- Timer actions: 0 REMIND, 1 RECORD (R209). -/
def TimerAction.code : TimerAction → Nat
  | .remind => 0
  | .record => 1

/-- Timer outcomes; the list of section 8.5 begins with none. -/
def TimerOutcome.code : TimerOutcome → Nat
  | .fired => 1
  | .noSuch => 2
  | .notCarried => 3
  | .full => 4
  | .conflict => 5

/-- Timer causes; the list of section 8.5 begins with none. -/
def TimerCause.code : TimerCause → Nat
  | .laneBusy => 1
  | .streamMap => 2

/-- Unrated policies: 0 ALLOW, 1 BLOCK (R209). -/
def UnratedPolicy.code : UnratedPolicy → Nat
  | .allow => 0
  | .block => 1

/-- Causes of the PROFILE notice; the list of section 9.1 begins with none. -/
def ProfileChange.code : ProfileChange → Nat
  | .lockedOut => 1
  | .lockoutEnded => 2
  | .periodEnded => 3
  | .budgetReached => 4
  | .dayReset => 5

/-- Prompt states (R181). -/
def PromptState.code : PromptState → Nat
  | .absent => 0
  | .pending => 1
  | .inService => 2
  | .dismissed => 3

/-- Discard causes; the list of section 1.4 begins with none. -/
def DiscardCause.code : DiscardCause → Nat
  | .restarted => 1
  | .continuity => 2
  | .packetError => 3
  | .sync => 4
  | .input => 5
  | .length => 6
  | .check => 7
  | .kind => 8

/-- Status values (R200). -/
def Status.code : Status → Nat
  | .ok => 0
  | .unknown => 1
  | .range => 2
  | .noSuch => 3
  | .full => 4
  | .conflict => 5
  | .inUse => 6
  | .busy => 7
  | .notCarried => 8
  | .noClock => 9
  | .badPin => 10
  | .lockedOut => 11
  | .refused => 12
  | .notOffered => 13
  | .tooLate => 14
  | .already => 15
  | .noCredit => 16
  | .logFull => 17

/-- Members of a set as the bits of one byte (R209). -/
def setByte {n : Nat} (members : List (Fin n)) : Nat :=
  (List.range 8).foldl (fun acc k => acc + if members.any fun m => m.val == k then 2 ^ k else 0) 0

/-! ### Records -/

/-- A lane record in the order of its table, then the gate state and the reason set (R44). -/
def Lane.fields (l : Lane) : List Field :=
  [.num 1 l.state.code, .ones 1 (l.step.map AcquireStep.code), .opt 2 l.service,
    .ones 1 (l.input.map inputCode), .ones 1 (l.profile.map (·.val)), .num 1 l.ceiling, .num 1 l.dwell,
    .num 1 l.silenceLimit, flag l.holdAtEnd, .num 1 l.health, .num 2 l.ticks, .opt 1 l.signalTick,
    .opt 1 l.keyTick, .opt 1 l.entryTick, .num 1 l.silence, .num 2 l.errors, .num 2 l.overruns,
    .ones 2 l.autoStop, .override l.override, .opt 2 (l.copy.map (·.event)),
    .ones 1 (l.lastChange.map LaneChange.code), .ones 1 (l.lastRefusal.map InstallRefusal.code),
    .num 1 l.gate.code, .num 1 l.reasons.toByte]

/-- The snapshot of a LANE notice (R43). -/
def Lane.snapshot (l : Lane) (i : Fin 6) : List Field :=
  [.num 1 i.val, .num 1 l.state.code, .ones 1 (l.step.map AcquireStep.code), .opt 2 l.service,
    .ones 1 (l.input.map inputCode), .ones 1 (l.profile.map (·.val)), .num 1 l.health, .num 1 l.ceiling,
    .opt 1 l.signalTick, .opt 1 l.keyTick, .opt 1 l.entryTick, .num 2 l.ticks, .num 2 l.errors,
    .num 2 l.overruns, .num 1 l.gate.code, .num 1 l.reasons.toByte, .ones 2 l.autoStop,
    .ones 1 (l.lastChange.map LaneChange.code), .ones 1 (l.lastRefusal.map InstallRefusal.code)]

/-- A service record with every field as loaded (R21). -/
def Service.fields (r : Service) : List Field :=
  [.num 2 r.number, .num 2 r.multiplex, .num 1 r.components.length] ++
    (r.components.flatMap fun c => [.num 2 c.stream, .num 1 c.type.code]) ++
    [.ones 2 r.keyStream, .num 2 r.baseProduct]

/-- One half as READ SLOT returns it, without key or candidate values (R92). The flag that says whether a key
or a candidate is present is the presence byte of its product. -/
def Half.fields (h : Half) : List Field :=
  [.opt 2 (h.key.map (·.product)), .opt 2 (h.candidate.map (·.product)),
    .num 1 ((h.candidate.map (·.agreement)).getD 0)]

/-- A key slot as READ SLOT returns it (R92). -/
def slotFields (k : Fin 16) : Option KeySlot → List Field
  | none => [.freeSlot]
  | some r =>
    [.num 1 k.val, .num 1 (inputCode r.input), .num 2 r.stream, .num 1 (setByte r.users), .num 1 (phaseCode r.phase),
      .num 1 r.refused, .num 1 r.rejected, .num 1 r.ignored] ++ r.even.fields ++ r.odd.fields

/-- The entitlement status record (section 6.6). -/
def Entitlement.fields (n : Entitlement) : List Field :=
  [.num 1 n.grants.length, .num 1 n.log.length, .num 2 n.nextSequence, .num 2 n.spent, .num 2 n.ceiling,
    .num 2 n.applied, .num 1 n.malformed, .num 1 n.dropped, .opt 2 n.lastDropped,
    .ones 1 (n.lastChange.map GrantChange.code)]

/-- A grant (R117). -/
def Grant.fields (g : Grant) : List Field :=
  [.num 2 g.product, .num 1 g.source.code, .num 4 g.start, .opt 4 g.stop, .opt 2 g.sequence]

/-- A purchase record (R118). -/
def PurchaseRecord.fields (r : PurchaseRecord) : List Field :=
  [.num 2 r.sequence, .num 2 r.event, .num 2 r.service, .num 2 r.product, .num 2 r.price, .num 4 r.time,
    .num 1 r.profile.val, .num 1 r.state.code]

/-- The guide status record (section 8.4). -/
def Guide.fields (g : Guide) : List Field :=
  [.num 2 g.entries.length, .num 2 g.taken, .num 1 g.malformed, .num 2 g.overlap, .num 2 g.replaced,
    .num 2 g.stored, .num 2 g.evicted, .num 2 g.refused]

/-- A guide entry with every field and its end (R147). -/
def GuideEntry.fields (g : GuideEntry) : List Field :=
  [.num 2 g.service, .num 2 g.event, .num 4 g.start, .num 2 g.duration, .num 1 g.rating, .num 2 g.product,
    .num 2 g.price, .num 4 g.stop]

/-- The header of a result table (section 4.1). -/
def SurveyTable.headerFields (t : SurveyTable) : List Field :=
  [.num 1 t.status.code, .num 1 t.records.length, .ones 1 t.position]

/-- A result record with its index (section 4.1). -/
def SurveyRecord.fields (index : Nat) (r : SurveyRecord) : List Field :=
  [.num 1 index, .num 2 r.service, .ones 1 (r.input.map inputCode),
    .ones 1 (r.outcome.map SurveyOutcome.code), .ones 1 (r.refusal.map InstallRefusal.code),
    .num 2 r.leadPackets, flag r.leadSaturated, .num 1 r.badEvents, flag r.scrambledSeen, flag r.keyObtained,
    .opt 1 r.firstEntryTick, .opt 1 r.lockTick]

/-- The snapshot of a SURVEY notice (R74). -/
def SurveyTable.snapshot (t : SurveyTable) (i : Fin 6) : List Field :=
  [.num 1 i.val, .num 1 t.status.code, .num 1 t.records.length] ++
    t.records.map fun r => .ones 1 (r.outcome.map SurveyOutcome.code)

/-- A local field, which exists only while the clock is VALID (R133, R134). -/
def Clock.localField (c : Clock) (width value : Nat) : Field := .ones width (if c.valid then some value else none)

/-- The fields of READ CLOCK and of a CLOCK notice (R133, R134). R209 does not say whether "the pending step with its
age or none" is one field or two: that the value has a presence byte of its own, and the age follows as a byte of
its own, 255 when there is none, is THE MODEL'S CHOICE (log entry 10). -/
def Clock.fields (c : Clock) : List Field :=
  [flag c.valid, .num 4 (if c.valid then c.now else 0), .int 2 c.zone, .num 4 c.dstStart, .num 4 c.dstEnd,
    .num 2 c.dstDelta, flag c.windowApplies,
    .opt 4 (c.pendingStep.map (·.value)), .ones 1 (c.pendingStep.map (·.age)),
    c.localField 2 c.day, c.localField 1 (indexHour c.minuteIndex), c.localField 1 (indexMinute c.minuteIndex),
    c.localField 1 (indexWeekday c.minuteIndex), c.localField 4 c.minuteIndex,
    .num 2 c.accepted, .num 1 c.malformed, .num 2 c.steps, .num 1 c.unconfirmed,
    .ones 1 (c.lastChange.map ClockChange.code), .optInt 5 c.lastStep]

/-- The fields of READ PROFILE (R161); the PIN is not returned. -/
def Profile.fields (p : Profile) : List Field :=
  [flag p.pin.isSome, flag p.purchaseAllowed, .num 1 p.ceiling, .num 1 p.unrated.code, .num 2 p.windowStart,
    .num 2 p.windowEnd, .num 2 p.budget, .num 4 p.used, .num 4 p.extension, .ones 2 p.recordedDay,
    .num 1 p.failures, .num 2 p.lockout, .num 2 p.period, .ones 1 (p.lastChange.map ProfileChange.code),
    .ones 4 (if p.limited then some p.limit else none), flag p.reached]

/-- What a PROFILE notice says of one viewing lane (R178): whether it is a viewing lane of the profile in an
evaluated state, and which of RATING, WINDOW and BUDGET it carries, whatever its profile. -/
def Lane.profileFields (l : Lane) (p : Fin 4) : List Field :=
  [flag (l.evaluatedFor p),
    .num 1 (Reasons.toByte
      { rating := l.reasons.rating, window := l.reasons.window, budget := l.reasons.budget })]

/-- The fields of READ TIMER, in the order of the timer table (R150). -/
def Timer.fields (t : Timer) : List Field :=
  [flag t.isSet, .num 1 (t.weekday.getD 255), .num 1 (t.hour.getD 255), .num 1 (t.minute.getD 255),
    .num 1 t.action.code, .num 1 t.display, .num 1 t.lane, .num 2 t.service, .num 2 t.duration, flag t.repeats,
    .ones 4 t.lastFired, .ones 1 (t.lastOutcome.map TimerOutcome.code),
    .ones 1 (t.lastCause.map TimerCause.code)]

/-- The snapshot of a TIMER notice (R157). -/
def Timer.snapshot (r : Timer) (t : Fin 24) : List Field :=
  [.num 1 t.val] ++ r.fields ++
    [.ones 1 (r.lastFired.map indexWeekday), .ones 1 (r.lastFired.map indexHour),
      .ones 1 (r.lastFired.map indexMinute)]

/-- A prompt context (R181). -/
def PromptContext.fields (c : PromptContext) : List Field :=
  [.ones 1 c.lane, .opt 2 c.service, .opt 2 c.event, .ones 1 c.profile, .ones 1 c.rating, .opt 2 c.price,
    .ones 1 c.timer]

/-- A kind of an arbiter with its context, or none (R193). -/
def Arbiter.kindFields (a : Arbiter) : Option (Fin 8) → List Field
  | some k => .num 1 k.val :: (a.entries[k]).context.fields
  | none => .num 1 255 :: ({} : PromptContext).fields

/-- A report set as two bytes (R209). -/
def ReportSet.fields (r : ReportSet) : List Field :=
  [.num 1 ((if r.eligible then 1 else 0) + (if r.withdrawn then 2 else 0) + (if r.context then 4 else 0)),
    .num 1 (setByte r.kinds)]

/-- An in-service stack as nine bytes (R209). -/
def stackFields (stack : List (Fin 8)) : List Field :=
  .num 1 stack.length :: (stack.map fun k => Field.num 1 k.val) ++
    List.replicate (8 - stack.length) (Field.num 1 255)

/-- The snapshot of a PROMPT notice (R193). -/
def Arbiter.snapshot (a : Arbiter) (d : Fin 2) : List Field :=
  [.num 1 d.val] ++ a.report.fields ++ [.num 1 a.lowest.val, flag a.autoRotate] ++
    (allKinds.flatMap fun k => [.num 1 (a.entries[k]).state.code, flag (a.entries[k]).masked]) ++
    stackFields a.stack ++ a.kindFields a.top ++ a.kindFields a.eligible.head?

/-- A section record (R205). -/
def SectionRecord.fields (r : SectionRecord) : List Field :=
  [.num 2 r.accepted, .num 2 r.discarded, .ones 1 (r.lastCause.map DiscardCause.code),
    .ones 1 (r.lastPair.map fun p => inputCode p.1), .ones 2 (r.lastPair.map (·.2))]

/-- The kind value of a notice (R205). -/
def Notice.kindCode : Notice → Nat
  | .lane _ => 1
  | .survey _ => 2
  | .prompt _ => 3
  | .timer _ => 4
  | .clock => 5
  | .grant => 6
  | .sections _ => 7
  | .profile _ => 8

/-- The subject of a notice (R205). -/
def Notice.subject : Notice → Nat
  | .lane i => i.val
  | .survey i => i.val
  | .prompt d => d.val
  | .timer t => t.val
  | .clock => 0
  | .grant => 0
  | .sections k => k.code
  | .profile p => p.val

/-- The snapshot fields of a notice, as its owner stands (R204, R205). -/
def State.snapshot (s : State) : Notice → List Field
  | .lane i => (s.lanes[i]).snapshot i
  | .survey i => (s.surveys[i]).snapshot i
  | .prompt d => (s.arbiters[d]).snapshot d
  | .timer t => (s.timers[t]).snapshot t
  | .clock => s.clock.fields
  | .grant => s.entitlement.fields
  | .sections k => (s.sectionRecord k).fields
  | .profile p => (s.profiles[p]).fields ++ (s.lanes[(0 : Fin 6)]).profileFields p ++
      (s.lanes[(1 : Fin 6)]).profileFields p

/-! ### Packets that the part builds (R202, section 11.9) -/

/-- The payload of a packet of the return queue (section 11.9). -/
def ReturnBody.payload : ReturnBody → List Byte
  | .response tag code status result =>
    [1#8] ++ bytes16 tag ++ [code, BitVec.ofNat 8 status.code, BitVec.ofNat 8 result.length] ++ result
  | .notice n snap =>
    [2#8, BitVec.ofNat 8 n.kindCode, BitVec.ofNat 8 n.subject, BitVec.ofNat 8 snap.length] ++ snap

/-- A packet of the return queue as it leaves on stream 8181 (0x1FF5): start flag and payload presence set,
its return count, and 0xFF beyond its fields (R202). -/
def ReturnPacket.packet (r : ReturnPacket) : Packet :=
  packetOfBytes ([0x47#8, 0x60#8 ||| r.count.setWidth 8, 0x1F#8, 0xF5#8] ++ r.body.payload)

/-- A blank order of a lane, on stream 8182 (0x1FF6): start flag clear, sequence count 0, the lane number in
payload byte 0 and 0xFF beyond it (R53, R202). -/
def blankPacket (i : Fin 6) : Packet :=
  packetOfBytes [0x47#8, 0x20#8, 0x1F#8, 0xF6#8, BitVec.ofNat 8 i.val]

/-- The packet that an output takes from a lane's buffer (R53, R58, R59). -/
def Buffer.packet? (b : Buffer) (i : Fin 6) : Option Packet :=
  match b with
  | .empty => none
  | .programme p => some p
  | .blankOrder => some (blankPacket i)

/-- A recorder frame: the mark 0xA5, the lane granted, 0 or 1 for a blank order, 0, and the packet unchanged
(section 11.9). -/
def RecorderFrame.bytes (f : RecorderFrame) : List Byte :=
  [0xA5#8, BitVec.ofNat 8 (recordingLane f.lane).val, if f.blank then 1#8 else 0#8, 0#8] ++ f.packet.toList

end Sys2Proof.Machine
end

