-- ==== Sys2Proof/Machine/Answer.lean ====
section
/-!
DEFINITION. How commands and events run: a command is one event, taken while port C's ready line is
asserted, whose response enters the return queue at its close (R197, R199, R200); an event of the blocks
runs while the reset line is not held (R208).
-/

namespace Sys2Proof.Machine

/-- The outcome of a command or an event. -/
abbrev Answer := Host.Outcome State Fault Refusal

/-- What a command has come to: its status, the result fields as they are read from the state at the close
of the event, and the event. -/
structure Reply where
  status : Status
  fields : State → List Field
  ev : Ev

/-- A refused command: a status other than OK and a result of length 0 (R200). -/
def Ev.refuse (e : Ev) (status : Status) : Reply := ⟨status, fun _ => [], e⟩

/-- An accepted command, with the fields of its result (R200). -/
def Ev.ok (e : Ev) (fields : State → List Field := fun _ => []) : Reply := ⟨.ok, fields, e⟩

/-- A response placed at the tail of the return queue (R199, R200). -/
def State.respond (s : State) (tag : Word16) (code : Byte) (status : Status) (fields : List Field) : State :=
  s.enqueue (.response tag code status (encode s.draws fields))

/-- The close of a command's event and its response (R199). -/
def Reply.close (r : Reply) (tag : Word16) (code : Byte) : State :=
  r.ev.close.respond tag code r.status (r.fields r.ev.close)

/-- A command of port C: one event with one response (R199, R200). A packet presented while the ready line is
dropped is lost whole and changes nothing (R197). -/
def command (tag : Word16) (code : Byte) (body : Ev → Reply) (s : State) : Answer :=
  if s.portCReady then .next ((body (Ev.start s)).close tag code) else .next s

/-- An event of the blocks. While the reset line is held nothing is taken, sent or counted (R208, R17, R121).
-/
def event (body : Ev → Ev) (s : State) : Answer :=
  if s.resetHeld then .next s else .next (body (Ev.start s)).close

end Sys2Proof.Machine
end

