-- ==== Sys2Proof/Machine/Grants.lean ====
section
/-!
DEFINITION. Coverage (R96), the coverage rescan of the key slots (R90), expiry (R98), the headend grant
operations (R100 to R106), and the grant table and log of purchases (R95, R107, R108).
-/

namespace Sys2Proof.Machine

/-- Whether a grant covers its product at a time (R96). -/
def Grant.coversAt (g : Grant) (valid : Bool) (t : Nat) : Bool :=
  if valid then decide (g.start ≤ t) && (match g.stop with
    | none => true
    | some e => decide (t < e))
  else g.start == 0 && g.stop.isNone

/-- Coverage of a product at a time (R96): product 0 is always covered. -/
def State.covered (s : State) (product t : Nat) : Bool :=
  product == 0 || s.entitlement.grants.any fun g => g.product == product && g.coversAt s.clock.valid t

/-- A half at a coverage rescan (R90): emptied when its product is not covered; the candidate is kept. -/
def Half.rescan (h : Half) (covered : Nat → Bool) : Half :=
  { h with key := h.key.filter fun k => covered k.product }

/-- The coverage rescan (R90): each allocated slot examines its two halves at N as it stands. -/
def State.rescan (s : State) : State :=
  { s with slots := Vector.ofFn fun k => s.slots[k].map fun slot =>
      { slot with
        even := slot.even.rescan fun p => s.covered p s.clock.now
        odd := slot.odd.rescan fun p => s.covered p s.clock.now } }

/-- Whether a grant has ended at N (R98). -/
def Grant.endedAt (g : Grant) (now : Nat) : Bool :=
  match g.stop with
  | none => false
  | some e => decide (e ≤ now)

/-- The grants left when those ended at N are removed, which happens only while the clock is VALID (R98,
R102). -/
def State.unexpired (s : State) : List Grant :=
  if s.clock.valid then s.entitlement.grants.filter fun g => !g.endedAt s.clock.now else s.entitlement.grants

/-- The grant table set. -/
def State.setGrants (s : State) (gs : List Grant) : State :=
  { s with entitlement := { s.entitlement with grants := gs } }

/-- A GRANT notice with its cause (R116). -/
def Ev.grantChange (e : Ev) (c : GrantChange) : Ev :=
  (e.on fun s => { s with entitlement := { s.entitlement with lastChange := some c } }).notice .grant

/-- Expiry (R98): the ended grants removed, and if there were any, last change EXPIRED and a GRANT notice.
The rescan is asked for by the event (R99). -/
def Ev.expire (e : Ev) : Ev :=
  if e.now.unexpired = e.now.entitlement.grants then e
  else (e.on fun s => s.setGrants s.unexpired).grantChange .expired

/-- Expiry at a second event, with its rescan when it removed a grant (R98, R99). -/
def Ev.expireAndRescan (e : Ev) : Ev :=
  let after := e.expire
  if after.now.entitlement.grants = e.now.entitlement.grants then after else after.on State.rescan

/-! ### The grant table -/

/-- The order of the grant table: by product, and HEADEND before PURCHASE (R95). -/
def Grant.before (a b : Grant) : Bool :=
  decide (a.product < b.product ∨ (a.product = b.product ∧ a.source = .headend ∧ b.source = .purchase))

/-- A grant placed in table order (R95). -/
def placeGrant (g : Grant) : List Grant → List Grant
  | [] => [g]
  | h :: rest => if g.before h then g :: h :: rest else h :: placeGrant g rest

/-- Whether a grant is the one of a product and source; there is at most one (R95). -/
def Grant.isFor (g : Grant) (product : Nat) (source : GrantSource) : Bool :=
  g.product == product && g.source == source

/-! ### Headend operations -/

/-- ADD (R102). -/
def State.addGrant (s : State) (product start : Nat) (stop : Option Nat) : State :=
  if s.entitlement.grants.any fun g => g.isFor product .headend then
    s.setGrants (s.entitlement.grants.map fun g =>
      if g.isFor product .headend then { g with start := start, stop := stop } else g)
  else
    let place (s : State) : State :=
      s.setGrants (placeGrant ⟨product, .headend, start, stop, none⟩ s.entitlement.grants)
    if s.entitlement.grants.length < 48 then place s
    else
      let cleared := s.setGrants s.unexpired
      if cleared.entitlement.grants.length < 48 then place cleared
      else { cleared with entitlement := { cleared.entitlement with
              dropped := raise 255 s.entitlement.dropped
              lastDropped := some product } }

/-- Whether an ADD is dropped (R102). -/
def State.dropsAdd (s : State) (product : Nat) : Bool :=
  !(s.entitlement.grants.any fun g => g.isFor product .headend) &&
    decide (48 ≤ s.entitlement.grants.length) && decide (48 ≤ s.unexpired.length)

/-- The price that a record holds in spent: that of an ACTIVE record (R108). -/
def PurchaseRecord.credit (r : PurchaseRecord) : Nat :=
  match r.state with
  | .active => r.price
  | .cancelled => 0

/-- The credit that a log holds in spent (R108). -/
def creditOf (log : List PurchaseRecord) : Nat := (log.map PurchaseRecord.credit).sum

/-- The log after COLLECT of a sequence: the record and every older one removed (R105). -/
def collectLog (sequence : Nat) (log : List PurchaseRecord) : List PurchaseRecord :=
  if log.any fun r => r.sequence == sequence then
    (log.dropWhile fun r => r.sequence != sequence).drop 1
  else log

/-- COLLECT (R105): spent falls by the price of each removed ACTIVE record (R108). -/
def State.collect (s : State) (sequence : Nat) : State :=
  let left := collectLog sequence s.entitlement.log
  { s with entitlement := { s.entitlement with
      log := left
      spent := s.entitlement.spent - (creditOf s.entitlement.log - creditOf left) } }

/-- One operation of a taken section (R102 to R105); the Bool says whether an ADD was dropped. -/
def State.grantOp (s : State) : GrantOp → State × Bool
  | .add product start stop => (s.addGrant product start stop, s.dropsAdd product)
  | .remove product => (s.setGrants (s.entitlement.grants.filter fun g => g.product != product), false)
  | .ceiling value => ({ s with entitlement := { s.entitlement with ceiling := value } }, false)
  | .collect sequence => (s.collect sequence, false)

/-- What the operations of a section have come to: the state, whether one created, replaced with other
times or removed a grant, whether the section changed something, and whether it dropped an ADD (R99, R106).
-/
structure GrantRun where
  state : State
  grantsChanged : Bool
  changed : Bool
  dropped : Bool

/-- One operation applied to the state that the previous one left (R101, R106). -/
def GrantRun.apply (r : GrantRun) (op : GrantOp) : GrantRun :=
  let next := r.state.grantOp op
  let a := r.state.entitlement
  let b := next.1.entitlement
  { state := next.1
    grantsChanged := r.grantsChanged || a.grants != b.grants
    changed := r.changed || a.grants != b.grants || a.ceiling != b.ceiling || a.log != b.log || next.2
    dropped := r.dropped || next.2 }

/-- A GRANT section handed to the entitlement block (R100, R101, R106). -/
def Ev.takeGrant (e : Ev) (body : List Byte) : Ev :=
  match parseGrantBody body with
  | none => e.on fun s => { s with entitlement := { s.entitlement with
      malformed := raise 255 s.entitlement.malformed } }
  | some (address, ops) =>
    if e.now.unitAddress = some address then
      let s := { e.now with entitlement := { e.now.entitlement with
        applied := raise 65535 e.now.entitlement.applied } }
      let run := ops.foldl GrantRun.apply ⟨s, false, false, false⟩
      let e := e.on fun _ => if run.grantsChanged then run.state.rescan else run.state
      if run.changed then e.grantChange (if run.dropped then .addDropped else .headend) else e
    else e

end Sys2Proof.Machine
end

