-- ==== Sys2Proof/Machine/KeySlots.lean ====
section
/-!
DEFINITION. Key entries, the vote and descrambling (spec/05): the taking of a KEY section (R79, R80), the vote
on a half (R82 to R84), and the slot's treatment of a packet (R85 to R87).
-/

namespace Sys2Proof.Machine

/-- The threshold of a vote depth n, (n + 1) / 2 (R81). -/
def threshold (depth : Nat) : Nat := (depth + 1) / 2

/-- The depth that SET KEY DEPTH stores for a byte (R81). -/
def clampDepth (n : Nat) : Nat := if n = 0 then 1 else if 15 < n then 15 else if n % 2 = 0 then n - 1 else n

/-- The half of a phase. -/
def KeySlot.half (k : KeySlot) : Phase → Half
  | .even => k.even
  | .odd => k.odd

/-- The half of a phase changed. -/
def KeySlot.modHalf (k : KeySlot) (h : Phase) (f : Half → Half) : KeySlot :=
  match h with
  | .even => { k with even := f k.even }
  | .odd => { k with odd := f k.odd }

/-- The candidate of a half installed as its key when its count has reached the threshold (R84). -/
def Half.installAt (t : Nat) (h : Half) : Half :=
  match h.candidate with
  | some c => if t ≤ c.agreement then ⟨some ⟨c.value, c.product⟩, none⟩ else h
  | none => h

/-- The vote of a covered entry on a half that is not in use and keyed (R83, R84), at threshold t. -/
def Half.vote (t : Nat) (h : Half) (value : Word64) (product : Nat) : Half :=
  if h.key.any fun k => k.value == value then { h with candidate := none }
  else
    match h.candidate with
    | none => Half.installAt t { h with candidate := some ⟨value, product, 1⟩ }
    | some c =>
      if c.value = value then
        Half.installAt t { h with candidate := some ⟨value, product, c.agreement + 1⟩ }
      else if c.agreement ≤ 1 then { h with candidate := none }
      else { h with candidate := some { c with agreement := c.agreement - 1 } }

/-- Whether a half is in use and keyed (R82). -/
def KeySlot.inUseKeyed (k : KeySlot) (h : Phase) : Bool := k.phase == some h && (k.half h).key.isSome

/-- One key entry taken at a slot (R80, R82, R83); `covered` is the answer of the entitlement block. -/
def KeySlot.takeEntry (k : KeySlot) (depth : Nat) (covered : Bool) (en : KeyEntry) : KeySlot :=
  if !covered then { k with refused := raise 255 k.refused }
  else if k.inUseKeyed en.phase then
    if (k.half en.phase).key.any fun key => key.value == en.value then k
    else { k with rejected := raise 255 k.rejected }
  else k.modHalf en.phase fun h => h.vote (threshold depth) en.value en.product

/-- A KEY section handed to the slot of its input and stream (R16, R79, R80). -/
def State.takeKeys (s : State) (slot : Fin 16) (body : List Byte) : State :=
  match parseKeyBody body with
  | none => s.modSlot slot fun k => { k with ignored := raise 255 k.ignored }
  | some entries =>
    entries.foldl (fun s en => s.modSlot slot fun k =>
      k.takeEntry s.voteDepth (s.covered en.product s.clock.now) en) s

/-! ### Packets at a slot -/

/-- What a slot does with a packet: the slot after it, the packet that goes to the lanes (none when it is
discarded as unkeyed), whether it was descrambled, and what becomes of ACCESS on the users. -/
structure SlotVerdict where
  slot : KeySlot
  packet : Option Packet
  descrambled : Bool
  access : Option Bool

/-- The phase of a scrambled packet. -/
def WirePhase.scrambled? : WirePhase → Option Phase
  | .even => some .even
  | .odd => some .odd
  | .clear => none
  | .reserved => none

/-- The treatment of a packet by a slot (R85 to R87): a packet without a payload leaves with key phase CLEAR,
a CLEAR one passes, a scrambled one sets the phase in use and is descrambled or discarded. -/
def KeySlot.treat (k : KeySlot) (p : Packet) : SlotVerdict :=
  if !hasPayload p then ⟨k, some (setPhaseClear p), false, none⟩
  else
    match (wirePhase p).scrambled? with
    | none => ⟨k, some p, false, none⟩
    | some h =>
      let k := { k with phase := some h }
      match (k.half h).key with
      | some key => ⟨k, some (replacePayload p (Config.cipherByte key.value)), true, some false⟩
      | none => ⟨k, none, false, some true⟩

/-- ACCESS set or cleared on a lane that uses the slot and is not SURVEYING (R86, R87, R67). -/
def Lane.setAccess (l : Lane) (access : Bool) : Lane :=
  if l.state = .surveying then l else { l with reasons := { l.reasons with access := access } }

/-- ACCESS set or cleared on every user of a slot that is not SURVEYING (R86, R87). -/
def State.setAccess (s : State) (users : List (Fin 6)) (access : Bool) : State :=
  users.foldl (fun s i => s.modLane i fun l => l.setAccess access) s

end Sys2Proof.Machine
end

