-- ==== Sys2Proof/Machine/Install.lean ====
section
/-!
DEFINITION. The stream map and the key slots as lanes join and leave them (R5, R7, R8, R23, R76 to R78), the
choice of an input (R22), and the judgement of an installation (R7, R24 checks 4 to 6).
-/

namespace Sys2Proof.Machine

/-- Whether a map entry is the one of a pair. -/
def MapEntry.isFor (en : MapEntry) (input : Input) (stream : Nat) : Bool :=
  en.input == input && en.stream == stream

/-- The entry of a pair. -/
def State.entry? (s : State) (input : Input) (stream : Nat) : Option MapEntry :=
  s.map.find? fun en => en.isFor input stream

/-- The entry of a pair changed. -/
def State.modEntry (s : State) (input : Input) (stream : Nat) (f : MapEntry → MapEntry) : State :=
  { s with map := s.map.map fun en => if en.isFor input stream then f en else en }

/-- A new entry (R5): last count absent, duplicate mark clear. -/
def newEntry (input : Input) (stream : Nat) (role : Role) : MapEntry := ⟨input, stream, role, none, false⟩

/-- Whether a slot serves a key stream on an input. -/
def KeySlot.serves (k : KeySlot) (input : Input) (stream : Nat) : Bool :=
  k.input == input && k.stream == stream

/-- The slot that serves a key stream on an input; no two do (R76). -/
def State.slotFor (s : State) (input : Input) (stream : Nat) : Option (Fin 16) :=
  allSlots.find? fun k => s.slots[k].any fun slot => slot.serves input stream

/-- The free slot with the lowest number (R77). -/
def State.freeSlot (s : State) : Option (Fin 16) := allSlots.find? fun k => s.slots[k].isNone

/-- An input that declares a multiplex: A when A does, otherwise B (R22). -/
def State.carrier (s : State) (multiplex : Nat) : Option Input :=
  if s.inputA.declared = some multiplex then some .a
  else if s.inputB.declared = some multiplex then some .b
  else none

/-! ### Leaving (R8, R78) -/

/-- An entry with a lane removed from its destination set; freed when the set becomes empty (R5, R8). -/
def MapEntry.without (i : Fin 6) (en : MapEntry) : Option MapEntry :=
  match en.role with
  | .message _ _ => some en
  | .component destinations slot =>
    if destinations.contains i then
      let rest := destinations.filter (· != i)
      if rest.isEmpty then none else some { en with role := .component rest slot }
    else some en

/-- The lane removed from every destination set and from the users of its slot (R8, R78). -/
def State.leave (s : State) (i : Fin 6) : State :=
  { s with
    map := s.map.filterMap (MapEntry.without i)
    slots := Vector.ofFn fun k => s.slots[k].map fun slot => { slot with users := slot.users.filter (· != i) } }

/-- Whether an entry is the KEY entry of a slot. -/
def MapEntry.isKeyEntryOf (en : MapEntry) (input : Input) (stream : Nat) : Bool :=
  en.isFor input stream && match en.role with
    | .message .key _ => true
    | .message .grant _ => false
    | .message .time _ => false
    | .message .guide _ => false
    | .component _ _ => false

/-- The slots of a kind freed: their KEY routes are removed and the entries freed, a partial section
discarded without a notice (R78, R5). -/
def State.freeSlots (s : State) (p : KeySlot → Bool) : State :=
  let gone := s.slots.toList.filterMap fun slot => slot.filter p
  { s with
    map := s.map.filter fun en => !gone.any fun k => en.isKeyEntryOf k.input k.stream
    slots := Vector.ofFn fun k => s.slots[k].filter fun slot => !p slot }

/-- Whether a lane is the only user of a slot. -/
def KeySlot.onlyUser (i : Fin 6) (k : KeySlot) : Bool := k.users == [i]

/-- A lane that leaves its entries and gives up its slot reference. A slot whose last reference that was is
freed, unless it serves one of the pairs `keep`: a lane that gives up a reference and takes one to the same slot
again in the same event does not free it (R23, R25, R78). -/
def State.detachKeeping (s : State) (i : Fin 6) (keep : List (Input × Nat)) : State :=
  (s.freeSlots fun k => k.onlyUser i && !keep.contains (k.input, k.stream)).leave i

/-- The same with no slot kept: what a lane leaves behind that takes nothing again (R8, R78). -/
def State.detach (s : State) (i : Fin 6) : State := s.detachKeeping i []

/-- The slot references that a lane holds: its number with the input and key stream of each slot it uses. -/
def State.references (s : State) (i : Fin 6) : List (Fin 6 × Input × Nat) :=
  allSlots.filterMap fun k => (s.slots[k].filter fun slot => slot.users.contains i).map fun slot =>
    (i, slot.input, slot.stream)

/-- A lane that leaves its entries and gives up its slot reference within an event (R78). -/
def Ev.giveUp (e : Ev) (i : Fin 6) : Ev :=
  { e.on (fun s => s.detachKeeping i e.keep) with gave := e.now.references i ++ e.gave }

/-! ### Installing (R7, R77) -/

/-- The pair of a service's key stream on an input. -/
def Service.keyPair (r : Service) (input : Input) : Option (Input × Nat) :=
  r.keyStream.map fun k => (input, k)

/-- The key stream that descrambles a COMPONENT entry, by its slot. -/
def State.slotStream (s : State) (slot : Option (Fin 16)) : Option Nat :=
  slot.bind fun k => s.slots[k].map fun r => r.stream

/-- Whether a needed COMPONENT pair is held in a way that the request cannot use (R7 step 1). -/
def State.componentConflict (s : State) (input : Input) (r : Service) (c : Component) : Bool :=
  match s.entry? input c.stream with
  | none => false
  | some en =>
    match en.role with
    | .message _ _ => true
    | .component _ slot => s.slotStream slot != r.keyStream

/-- Whether the needed KEY pair is held otherwise, or its stream is also a component (R7 step 1). -/
def State.keyConflict (s : State) (input : Input) (r : Service) : Bool :=
  match r.keyStream with
  | none => false
  | some k =>
    (r.components.any fun c => c.stream == k) ||
      match s.entry? input k with
      | none => false
      | some en => !en.isKeyEntryOf input k

/-- How many needed pairs the map does not hold (R7 step 2). -/
def State.missingPairs (s : State) (input : Input) (r : Service) : Nat :=
  (r.components.filter fun c => (s.entry? input c.stream).isNone).length +
    match r.keyStream with
    | none => 0
    | some k => if (s.entry? input k).isNone then 1 else 0

/-- Whether a scrambled service finds neither its slot nor a free one (R24 check 6). -/
def State.slotsFull (s : State) (input : Input) (r : Service) : Bool :=
  match r.keyStream with
  | none => false
  | some k => (s.slotFor input k).isNone && s.freeSlot.isNone

/-- The judgement of an installation, made on the map and slots as the requesting lane has left them (R7,
R24 checks 4 to 6): `none` when it is accepted. -/
def State.judge (s : State) (input : Input) (r : Service) : Option InstallRefusal :=
  if (r.components.any (s.componentConflict input r)) || s.keyConflict input r then some .conflict
  else if 96 < s.map.length + s.missingPairs input r then some .full
  else if s.slotsFull input r then some .full
  else none

/-- A slot newly allocated (R77). -/
def KeySlot.fresh (input : Input) (stream : Nat) (i : Fin 6) : KeySlot where
  input := input
  stream := stream
  users := [i]
  phase := none
  even := ⟨none, none⟩
  odd := ⟨none, none⟩
  refused := 0
  rejected := 0
  ignored := 0

/-- The slot reference taken (R77): the existing slot gains a user, or the lowest free slot is allocated. -/
def State.takeSlot (s : State) (i : Fin 6) (input : Input) (stream : Nat) : State :=
  match s.slotFor input stream with
  | some k => s.modSlot k fun slot =>
      { slot with users := if slot.users.contains i then slot.users else slot.users ++ [i] }
  | none =>
    match s.freeSlot with
    | some k => s.setSlot k (some (KeySlot.fresh input stream i))
    | none => s

/-- An entry with a lane added to its destination set (R7 step 3). -/
def MapEntry.withLane (i : Fin 6) (en : MapEntry) : MapEntry :=
  match en.role with
  | .component destinations slot =>
    { en with role := .component (if destinations.contains i then destinations else destinations ++ [i]) slot }
  | .message _ _ => en

/-- One component of a service installed for a lane (R7 step 3). -/
def State.installComponent (i : Fin 6) (input : Input) (slot : Option (Fin 16)) (s : State) (c : Component) :
    State :=
  if (s.entry? input c.stream).isSome then s.modEntry input c.stream (MapEntry.withLane i)
  else { s with map := s.map ++ [newEntry input c.stream (.component [i] slot)] }

/-- The KEY entry of a scrambled service, created when it is missing (R7 step 3, R77). -/
def State.installKeyEntry (s : State) (input : Input) (stream : Nat) : State :=
  if (s.entry? input stream).isSome then s
  else { s with map := s.map ++ [newEntry input stream (.message .key .idle)] }

/-- A service installed for a lane on an input, and its slot reference taken (R7 step 3, R77). -/
def State.install (s : State) (i : Fin 6) (input : Input) (r : Service) : State :=
  match r.keyStream with
  | none => r.components.foldl (State.installComponent i input none) s
  | some k =>
    let s := (s.takeSlot i input k).installKeyEntry input k
    r.components.foldl (State.installComponent i input (s.slotFor input k)) s

/-! ### Taking a reference again within one event (R78) -/

/-- A service installed for a lane within an event (R7, R77). A reference taken that the lane has given up in the
same event is a slot taken again (R78). -/
def Ev.installFor (e : Ev) (i : Fin 6) (input : Input) (r : Service) : Ev :=
  let again := (r.keyPair input).toList.filter fun p => e.gave.contains (i, p)
  { e.on (fun s => s.install i input r) with retaken := again ++ e.retaken }

/-- The slots of some pairs that nobody uses, freed (R78). -/
def State.freeUnused (s : State) (pairs : List (Input × Nat)) : State :=
  s.freeSlots fun k => k.users.isEmpty && pairs.contains (k.input, k.stream)

/-- An event in which no slot is freed that a lane gives up and takes again: it keeps its number, halves,
candidates, phase in use and counts, and its KEY entry its record, whatever other lanes do in between (R66, R78).
Which slots those are shows in a run of the event in which every slot is freed that loses its last user; where there
are any, the event is the run that keeps them. THE MODEL'S CHOICE is that a slot which is taken again only if it
was kept counts as freed (log entry 19). -/
def Ev.keepingRetaken (e : Ev) (body : Ev → Ev) : Ev :=
  if (body e).retaken.isEmpty then body e
  else (body { e with keep := (body e).retaken }).on fun s => s.freeUnused (body e).retaken

end Sys2Proof.Machine
end

