-- ==== Sys2Proof/Machine/Programmes.lean ====
section
/-!
DEFINITION. The guide table and the programmes of the lanes (spec/08): current entries (R143), the copies of
the lanes and their programme boundaries (R144, R145), hold-at-end (R55), and the taking of a GUIDE section
(R138 to R142).
-/

namespace Sys2Proof.Machine

/-- The current entry of a service at N (R143): none while the clock is INVALID. -/
def State.currentEntry (s : State) (service : Nat) : Option GuideEntry :=
  if s.clock.valid then s.guide.entries.find? fun g => g.service == service && g.holds s.clock.now
  else none

/-- The states in which a lane keeps a copy (R144). -/
def LaneState.keepsCopy : LaneState → Bool
  | .acquiring => true
  | .stalled => true
  | .passing => true
  | .degraded => true
  | .lost => true
  | .idle => false
  | .surveying => false

/-- The copy that a lane should have: the current entry of its service (R144). -/
def State.copyFor (s : State) (i : Fin 6) : Option GuideEntry :=
  s.lanes[i].service.bind s.currentEntry

/-- Whether a change of copy is a programme boundary (R145). -/
def isBoundary : Option GuideEntry → Option GuideEntry → Bool
  | none, none => false
  | none, some _ => true
  | some _, none => true
  | some a, some b => a.event != b.event || a.rating != b.rating || a.product != b.product

/-- Hold-at-end at a boundary (R55): the option on, an entry before the boundary, and a lane neither IDLE
nor SURVEYING. -/
def Lane.holdAtBoundary (l : Lane) (old : Option GuideEntry) : Lane × Bool :=
  if l.holdAtEnd && old.isSome && l.state != .idle && l.state != .surveying then
    ({ l with reasons := { l.reasons with hostHold := true }, lastChange := some .heldAtEnd }, true)
  else (l, false)

/-- The copy of a lane recomputed (R144), and at a boundary its three owners (R145): the programme override
is cleared and the lane evaluated, and the gate acts on hold-at-end. The prompt arbiter takes the lane at
the close of the event (R182). -/
def Ev.recomputeCopy (e : Ev) (i : Fin 6) : Ev :=
  if e.now.lanes[i].state.keepsCopy then
    let old := e.now.lanes[i].copy
    let new := e.now.copyFor i
    let e := e.on fun s => s.modLane i fun l => { l with copy := new }
    if isBoundary old new then
      let e := e.on fun s => (s.modLane i fun l => { l with override := none }).evaluate i
      e.lane i fun l => l.holdAtBoundary old
    else e
  else e

/-- The copies of every lane recomputed (R144). -/
def Ev.recomputeCopies (e : Ev) : Ev := allLanes.foldl Ev.recomputeCopy e

/-! ### GUIDE sections -/

/-- The sifting of a section's entries (R139): each is kept when it overlaps none kept before it; the count
is of the entries dropped. -/
def siftEntries (es : List GuideEntry) : List GuideEntry × Nat :=
  es.foldl (fun acc g => if acc.1.any g.overlaps then (acc.1, acc.2 + 1) else (acc.1 ++ [g], acc.2)) ([], 0)

/-- The span of the new entries: the earliest start and the latest end (R139). -/
def spanOf : List GuideEntry → Option (Nat × Nat)
  | [] => none
  | g :: rest => some (rest.foldl (fun acc h => (min acc.1 h.start, max acc.2 h.stop)) (g.start, g.stop))

/-- Whether a stored entry of the service overlaps the span (R140). -/
def GuideEntry.inSpan (g : GuideEntry) (service : Nat) (span : Nat × Nat) : Bool :=
  g.service == service && decide (g.start < span.2 ∧ span.1 < g.stop)

/-- Table order: by service and, within one service, by start (R137). -/
def GuideEntry.before (a b : GuideEntry) : Bool :=
  decide (a.service < b.service ∨ (a.service = b.service ∧ a.start < b.start))

/-- An entry placed in table order (R137). Two entries of one service that both start at the largest second have
empty intervals (R136) and so do not overlap: R139 keeps both, though R137 says that no two starts are equal. That
both are stored, the later placed behind the earlier, is THE MODEL'S CHOICE (log entry 30). -/
def placeEntry (g : GuideEntry) : List GuideEntry → List GuideEntry
  | [] => [g]
  | h :: rest => if g.before h then g :: h :: rest else h :: placeEntry g rest

/-- The first member of a list that no other member is better than. -/
def firstBest {α : Type} (better : α → α → Bool) : List α → Option α
  | [] => none
  | x :: rest => some (rest.foldl (fun best y => if better y best then y else best) x)

/-- The entry evicted for a new one in a full table (R141): the ended entry with the earliest end, the first
in table order among equals; otherwise the entry with the latest start, the last in table order among
equals, if the new entry starts earlier. -/
def evictFor (clock : Clock) (table : List GuideEntry) (g : GuideEntry) : Option GuideEntry :=
  let ended := table.filter fun h => clock.valid && decide (h.stop ≤ clock.now)
  match firstBest (fun a b => decide (a.stop < b.stop)) ended with
  | some h => some h
  | none =>
    match firstBest (fun a b => decide (b.start ≤ a.start)) table with
    | some h => if g.start < h.start then some h else none
    | none => none

/-- One new entry placed, with an eviction when the table is full, or dropped (R141). -/
def Guide.place (clock : Clock) (guide : Guide) (g : GuideEntry) : Guide :=
  if guide.entries.length < 384 then
    { guide with entries := placeEntry g guide.entries, stored := raise 65535 guide.stored }
  else
    match evictFor clock guide.entries g with
    | some h =>
      { guide with
        entries := placeEntry g (guide.entries.erase h)
        evicted := raise 65535 guide.evicted
        stored := raise 65535 guide.stored }
    | none => { guide with refused := raise 65535 guide.refused }

/-- A saturating count raised `n` times. -/
def raiseBy (top n count : Nat) : Nat := min (count + n) (max top count)

/-- A well-formed GUIDE section taken (R138 to R141). -/
def Guide.take (clock : Clock) (guide : Guide) (service : Nat) (es : List GuideEntry) : Guide :=
  let sifted := siftEntries es
  match spanOf sifted.1 with
  | none => guide
  | some span =>
    let gone := guide.entries.filter fun g => g.inSpan service span
    let cleared := { guide with
      entries := guide.entries.filter fun g => !g.inSpan service span
      taken := raise 65535 guide.taken
      overlap := raiseBy 65535 sifted.2 guide.overlap
      replaced := raiseBy 65535 gone.length guide.replaced }
    sifted.1.foldl (Guide.place clock) cleared

/-- A GUIDE section handed to the guide block (R138, R142): at its close, if it removed, placed or evicted
any entry, the copies are recomputed. -/
def Ev.takeGuide (e : Ev) (body : List Byte) : Ev :=
  match parseGuideBody body with
  | none => e.on fun s => { s with guide := { s.guide with malformed := raise 255 s.guide.malformed } }
  | some (service, es) =>
    let old := e.now.guide
    let e := e.on fun s => { s with guide := old.take s.clock service es }
    if old.entries = e.now.guide.entries ∧ old.replaced = e.now.guide.replaced then e else e.recomputeCopies

end Sys2Proof.Machine
end

