-- ==== Sys2Proof/Machine/Tuning.lean ====
section
/-!
DEFINITION. Channel change (spec/02): the checks of a tune from the second on (R24), the seven steps of an
accepted tune (R25), untuning (R35, R36), loss and re-acquisition (R37, R38), and the acquisition steps of
a lead arrival (R26 to R28).
-/

namespace Sys2Proof.Machine

/-- Checks (2) to (6) of R24, on a lane that any tune may reach: the service and the input, or the status
of the first failure. -/
def State.tuneChecks (s : State) (i : Fin 6) (service : Nat) : Except Status (Service × Input) :=
  match s.service? service with
  | none => .error .noSuch
  | some r =>
    match s.carrier r.multiplex with
    | none => .error .notCarried
    | some input =>
      match (s.detach i).judge input r with
      | some .conflict => .error .conflict
      | some .full => .error .full
      | none => .ok (r, input)

/-- The map and slots with a service installed for a lane that leaves its present ones; a slot that the
lane gives up and takes again is not freed in between (R25 steps 1 and 4, R78). -/
def Ev.reinstall (e : Ev) (i : Fin 6) (input : Input) (r : Service) : Ev :=
  (e.on fun s => s.detachKeeping i ((r.keyPair input).toList ++ e.keep)).installFor i input r

/-- The record of a lane after step 5 of R25. -/
def Lane.tuned (l : Lane) (r : Service) (input : Input) (profile : Option (Fin 4)) (autoStop : Option Nat) :
    Lane :=
  { l with
    state := .acquiring
    step := some .signal
    service := some r.number
    input := some input
    profile := profile
    health := 0
    ticks := 0
    silence := 0
    signalTick := none
    keyTick := none
    entryTick := none
    errors := 0
    overruns := 0
    override := none
    autoStop := autoStop
    lastChange := some .tuned
    lastRefusal := none
    reasons := { acquire := true } }

/-- An accepted tune, steps 1 to 6 of R25; step 3 and the evaluation of step 6 apply to viewing lanes. -/
def Ev.tuneLane (e : Ev) (i : Fin 6) (r : Service) (input : Input) (profile : Option (Fin 4))
    (autoStop : Option Nat) : Ev :=
  let e := match displayOfLane i with
    | some d => e.withdrawLevels d
    | none => e
  (e.reinstall i input r).on fun s =>
    let s := s.modLane i fun l => l.tuned r input profile autoStop
    (s.modLane i fun l => { l with copy := s.copyFor i }).evaluate i

/-- The record of a lane after an untune (R35), with the last change given. -/
def Lane.untuned (l : Lane) (change : LaneChange) : Lane :=
  { l with
    state := .idle
    step := none
    service := none
    input := none
    profile := none
    health := 0
    silence := 0
    autoStop := none
    override := none
    copy := none
    lastChange := some change
    reasons := {}
    gate := .hold
    buffer := .empty }

/-- An untune of a lane that is not IDLE (R35), or its auto-stop (R36). -/
def Ev.untuneLane (e : Ev) (i : Fin 6) (change : LaneChange) : Ev :=
  let e := (e.giveUp i).on fun s => s.modLane i fun l => l.untuned change
  match displayOfLane i with
  | some d => e.withdrawLevels d
  | none => e

/-- One second event of a lane's auto-stop (R36): lowered by 1, and the lane untuned with a LANE notice when
it reaches 0. -/
def Ev.autoStopSecond (e : Ev) (i : Fin 6) : Ev :=
  match e.now.lanes[i].autoStop with
  | none => e
  | some n =>
    if e.now.lanes[i].state = .idle then e
    else if n ≤ 1 then (e.untuneLane i .autoStopped).notice (.lane i)
    else e.on fun s => s.modLane i fun l => { l with autoStop := some (n - 1) }

/-! ### Loss and re-acquisition -/

/-- The record of a lane after entry into LOST (R37). -/
def Lane.lose (l : Lane) : Lane :=
  { l with
    state := .lost
    step := none
    health := 0
    silence := 0
    lastChange := some .lost
    reasons := { hostHold := l.reasons.hostHold, hostBlank := l.reasons.hostBlank } }

/-- Entry of a lane into LOST (R37). -/
def Ev.loseLane (e : Ev) (i : Fin 6) : Ev :=
  ((e.giveUp i).on fun s => s.modLane i Lane.lose).notice (.lane i)

/-- The record of a lane after an accepted re-acquisition (R38). -/
def Lane.reacquired (l : Lane) (input : Input) : Lane :=
  { l with
    state := .acquiring
    step := some .signal
    input := some input
    ticks := 0
    signalTick := none
    keyTick := none
    entryTick := none
    lastRefusal := none
    lastChange := some .reacquiring
    reasons := { l.reasons with acquire := true } }

/-- The attempt of one LOST lane to re-acquire (R38): none while neither input declares its multiplex. The
lane holds no entry and no slot. -/
def Ev.reacquire (e : Ev) (i : Fin 6) : Ev :=
  if e.now.lanes[i].state = .lost then
    match e.now.laneService? i with
    | none => e
    | some r =>
      match e.now.carrier r.multiplex with
      | none => e
      | some input =>
        match e.now.judge input r with
        | some refusal =>
          (e.on fun s => s.modLane i fun l =>
            { l with lastRefusal := some refusal, lastChange := some .reacquireRefused }).notice (.lane i)
        | none =>
          ((e.installFor i input r).on fun s =>
            let s := s.modLane i fun l => l.reacquired input
            (s.modLane i fun l => { l with copy := s.copyFor i }).evaluate i).notice (.lane i)
  else e

/-! ### Acquisition -/

/-- What became of a packet of the lead entry (R26). -/
inductive LeadOutcome where
  | damaged
  | accepted
  | duplicate
  | error
  | uncounted
  deriving DecidableEq, Repr

/-- A lead arrival (R26): what became of the packet, whether it reached the lanes, whether the slot
descrambled it, whether the entry has a slot, the key phase as it arrived and the entry-point flag. -/
structure LeadArrival where
  outcome : LeadOutcome
  delivered : Bool
  descrambled : Bool
  scrambledService : Bool
  phase : WirePhase
  entryPoint : Bool
  deriving DecidableEq, Repr

/-- The SIGNAL step at a lead arrival (R27). -/
def Lane.signalStep (l : Lane) (a : LeadArrival) : Lane :=
  if l.step = some .signal ∧ a.outcome = .accepted then
    { l with signalTick := some (min l.ticks 255)
             step := some (if a.scrambledService then .key else .entry) }
  else l

/-- The KEY step at a lead arrival (R27). -/
def Lane.keyStep (l : Lane) (a : LeadArrival) : Lane :=
  if l.step = some .key ∧ a.outcome = .accepted ∧ a.delivered then
    { l with keyTick := some (min l.ticks 255), step := some .entry }
  else l

/-- The ENTRY step at a lead arrival (R27). -/
def Lane.entryStep (l : Lane) (a : LeadArrival) : Lane :=
  if l.step = some .entry ∧ a.outcome = .accepted ∧ a.delivered ∧ a.entryPoint then
    { l with entryTick := some (min l.ticks 255), step := none }
  else l

/-- The steps that a lead arrival completes, in the order SIGNAL, KEY, ENTRY (R27). -/
def Lane.acquireSteps (l : Lane) (a : LeadArrival) : Lane := ((l.signalStep a).keyStep a).entryStep a

/-- The end of acquisition (R28). -/
def Lane.pass (l : Lane) : Lane :=
  { l with
    state := .passing
    health := l.ceiling
    silence := 0
    lastChange := some .passed
    reasons := { l.reasons with acquire := false } }

/-- A lead arrival at a lane that is not SURVEYING (R27, R28, R34): the silence count becomes 0, and in
ACQUIRING and STALLED steps may complete. -/
def Lane.leadArrival (l : Lane) (a : LeadArrival) : Lane × Bool :=
  let l := { l with silence := 0 }
  if l.state = .acquiring ∨ l.state = .stalled then
    let stepped := l.acquireSteps a
    if l.step.isSome ∧ stepped.step = none then (stepped.pass, true) else (stepped, false)
  else (l, false)

end Sys2Proof.Machine
end

