-- ==== Sys2Proof/Machine/Surveys.lean ====
section
/-!
DEFINITION. Service surveys (spec/04): the counts and captures of a measured service (R68, R69), the taking-up
of a turn (R66), the end of a turn (R70, R73), the end of a survey (R71) and its abort (R72); and the good
events, error reports and lead arrivals of a lane, which a survey counts in its own way (R31).
-/

namespace Sys2Proof.Machine

/-- A new result record (R64). -/
def SurveyRecord.fresh (service : Nat) : SurveyRecord where
  service := service
  input := none
  outcome := none
  refusal := none
  leadPackets := 0
  leadSaturated := false
  badEvents := 0
  scrambledSeen := false
  keyObtained := false
  firstEntryTick := none
  lockTick := none

/-- The record at an index, counted from 1. -/
def SurveyTable.record? (t : SurveyTable) (index : Nat) : Option SurveyRecord :=
  if index = 0 then none else t.records[index - 1]?

/-- The record at an index changed. -/
def SurveyTable.modRecord (t : SurveyTable) (index : Nat) (f : SurveyRecord → SurveyRecord) : SurveyTable :=
  if index = 0 then t else { t with records := t.records.modify (index - 1) f }

/-- The record at the position changed. -/
def SurveyTable.modCurrent (t : SurveyTable) (f : SurveyRecord → SurveyRecord) : SurveyTable :=
  match t.position with
  | some p => t.modRecord p f
  | none => t

/-! ### What a measured service brings -/

/-- A lead arrival recorded (R68). -/
def SurveyRecord.leadArrival (r : SurveyRecord) (a : LeadArrival) : SurveyRecord :=
  { r with
    leadPackets := raise 65535 r.leadPackets
    leadSaturated := r.leadSaturated || r.leadPackets == 65535
    scrambledSeen := r.scrambledSeen || a.phase == .even || a.phase == .odd
    keyObtained := r.keyObtained ||
      ((a.outcome == .accepted || a.outcome == .error) && a.descrambled && a.delivered) }

/-- The lock tick taken the first time that the survey health counter equals the health ceiling (R69). -/
def SurveyRecord.lock (r : SurveyRecord) (l : Lane) : SurveyRecord :=
  if l.health = l.ceiling ∧ r.lockTick = none then { r with lockTick := some (min l.ticks 255) } else r

/-- A lead arrival at a lane (R26): at a SURVEYING lane it is recorded and completes steps (R68), elsewhere
it acts as R27 and R34 state. -/
def Ev.leadArrival (e : Ev) (i : Fin 6) (a : LeadArrival) : Ev :=
  if e.now.lanes[i].state = .surveying then
    let l := e.now.lanes[i]
    let stepped := { l with silence := 0 }.acquireSteps a
    let completed := l.step.isSome && stepped.step.isNone
    e.on fun s => (s.modLane i fun _ => stepped).modSurvey i fun t => t.modCurrent fun r =>
      let r := r.leadArrival a
      if completed then { r with firstEntryTick := stepped.entryTick } else r
  else e.lane i fun l => l.leadArrival a

/-- A good event at a lane (R31 to R33, R69). -/
def Ev.goodEvent (e : Ev) (i : Fin 6) : Ev :=
  let e := e.lane i Lane.goodEvent
  if e.now.lanes[i].state = .surveying then
    e.on fun s => s.modSurvey i fun t => t.modCurrent fun r => r.lock s.lanes[i]
  else e

/-- An error report at a lane (R12, R31, R68). -/
def Ev.errorReport (e : Ev) (i : Fin 6) : Ev :=
  let e := e.lane i Lane.errorReport
  if e.now.lanes[i].state = .surveying then
    e.on fun s => s.modSurvey i fun t => t.modCurrent fun r => { r with badEvents := raise 255 r.badEvents }
  else e

/-! ### Turns -/

/-- How the turn of a listed service is judged (R66): the service and the input, or the outcome and refusal
with which the record ends at once. The lane has left the entries of its previous turn. -/
def State.judgeTurn (s : State) (service : Nat) :
    Except (SurveyOutcome × Option InstallRefusal) (Service × Input) :=
  match s.service? service with
  | none => .error (.noSuch, none)
  | some r =>
    match s.carrier r.multiplex with
    | none => .error (.notCarried, none)
    | some input =>
      match s.judge input r with
      | some refusal => .error (.notCarried, some refusal)
      | none => .ok (r, input)

/-- The lane at the start of an installed turn (R66). -/
def Lane.turnStarted (l : Lane) (r : Service) (input : Input) : Lane :=
  { l with
    service := some r.number
    input := some input
    ticks := 0
    step := some .signal
    signalTick := none
    keyTick := none
    entryTick := none
    health := 0
    silence := 0 }

/-- The lane at the end of a survey (R71). -/
def Lane.surveyEnded (l : Lane) : Lane :=
  { l with
    state := .idle
    step := none
    service := none
    input := none
    profile := none
    health := 0
    silence := 0
    copy := none
    autoStop := none
    reasons := { l.reasons with acquire := false } }

/-- The end of a survey (R71). -/
def Ev.endSurvey (e : Ev) (i : Fin 6) : Ev :=
  ((e.giveUp i).on fun s =>
    (s.modLane i Lane.surveyEnded).modSurvey i fun t =>
      { t with status := .complete, position := none }).notice (.survey i)

/-- The turn at a position taken up, and the turns after it while each ends at once (R66); `left` bounds the
number of records still to come. -/
def Ev.takeUp (e : Ev) (i : Fin 6) : (left position : Nat) → Ev
  | 0, _ => e.endSurvey i
  | left + 1, position =>
    match e.now.surveys[i].record? position with
    | none => e.endSurvey i
    | some record =>
      match e.now.judgeTurn record.service with
      | .error (outcome, refusal) =>
        (e.on fun s => s.modSurvey i fun t => t.modRecord position fun r =>
          { r with outcome := some outcome, refusal := refusal }).takeUp i left (position + 1)
      | .ok (r, input) =>
        (e.installFor i input r).on fun s =>
          (s.modLane i fun l => l.turnStarted r input).modSurvey i fun t =>
            { t.modRecord position fun rec => { rec with input := some input } with position := some position }

/-- The next turn of a lane taken up from a position on (R66). -/
def Ev.takeUpFrom (e : Ev) (i : Fin 6) (position : Nat) : Ev :=
  e.takeUp i (e.now.surveys[i].records.length + 1 - position) position

/-- The end of the turn in progress with an outcome (R70, R73): the record keeps its counts, and the lane
leaves its map entries and gives up its slot reference, which the next turn may take again. -/
def Ev.endTurn (e : Ev) (i : Fin 6) (outcome : SurveyOutcome) : Ev :=
  (e.giveUp i).on fun s => s.modSurvey i fun t => t.modCurrent fun r => { r with outcome := some outcome }

/-- The position after the one in progress. -/
def State.nextPosition (s : State) (i : Fin 6) : Nat :=
  match s.surveys[i].position with
  | some p => p + 1
  | none => s.surveys[i].records.length + 1

/-- The end of a turn whose dwell has run out, and the next turn (R70). -/
def Ev.turnDone (e : Ev) (i : Fin 6) : Ev :=
  let e := e.endTurn i .done
  e.takeUpFrom i (e.now.nextPosition i)

/-- The abort of a survey by a TUNE or an UNTUNE (R72). -/
def Ev.abortSurvey (e : Ev) (i : Fin 6) : Ev :=
  (e.on fun s => s.modSurvey i fun t =>
    let p := t.position.getD 0
    { status := .aborted
      position := none
      records := t.records.mapIdx fun n r =>
        if n + 1 = p then { r with outcome := some .aborted }
        else if p < n + 1 then { r with outcome := some .notReached }
        else r }).notice (.survey i)

/-- The abort that a TUNE or an UNTUNE of a SURVEYING lane begins with (R25, R35, R72). -/
def Ev.abortIfSurveying (e : Ev) (i : Fin 6) : Ev :=
  if e.now.lanes[i].state = .surveying then e.abortSurvey i else e

/-- The lane at the acceptance of a SURVEY (R65). -/
def Lane.surveyStarted (l : Lane) : Lane :=
  { l with
    state := .surveying
    profile := none
    override := none
    copy := none
    health := 0
    silence := 0
    ticks := 0
    signalTick := none
    keyTick := none
    entryTick := none
    errors := 0
    overruns := 0
    lastChange := none
    lastRefusal := none
    reasons := { acquire := true } }

/-- An accepted SURVEY (R65). -/
def Ev.startSurvey (e : Ev) (i : Fin 6) (services : List Nat) : Ev :=
  (e.on fun s => (s.modSurvey i fun _ =>
    { status := .running, position := some 1, records := services.map SurveyRecord.fresh }).modLane i
      Lane.surveyStarted).takeUpFrom i 1

end Sys2Proof.Machine
end

