-- ==== Sys2Proof/Machine/Timers.lean ====
section
/-!
DEFINITION. Timers (spec/08): the match of a timer at a minute index (R151), its actions (R154 to R156), its
evaluation at a minute event (R152) and the catch-up of a step (R153).
-/

namespace Sys2Proof.Machine

/-- Whether a field of a timer, ANY or a value, matches (R151). -/
def fieldMatches (field : Option Nat) (value : Nat) : Bool :=
  match field with
  | none => true
  | some v => v == value

/-- Whether a timer fires at a minute index (R151). -/
def Timer.fires (t : Timer) (j : Nat) : Bool :=
  t.isSet && fieldMatches t.weekday (indexWeekday j) && fieldMatches t.hour (indexHour j) &&
    fieldMatches t.minute (indexMinute j) && (match t.lastFired with
      | none => true
      | some f => decide (f < j))

/-- The event id of the current entry of a timer's service, for its prompt context (R154, R156). -/
def State.timerEvent (s : State) (service : Nat) : Option Nat := (s.currentEntry service).map (·.event)

/-- A request raised at the prompt arbiter of a display for an edge kind (R154, R156, R192). -/
def Ev.requestPrompt (e : Ev) (d : Fin 2) (kind : Fin 8) (c : PromptContext) : Ev :=
  e.arbiter d fun a => a.raiseKind kind c

/-- The action of a REMIND timer (R154). -/
def Ev.remind (e : Ev) (t : Fin 24) : Ev :=
  let timer := e.now.timers[t]
  match displayOf timer.display with
  | none => e
  | some d => e.requestPrompt d 6
      { service := some timer.service, event := e.now.timerEvent timer.service, timer := some t.val }

/-- The outcome and cause that a refused tune gives a timer (R155). -/
def timerRefusal : Status → TimerOutcome × Option TimerCause
  | .noSuch => (.noSuch, none)
  | .notCarried => (.notCarried, none)
  | .conflict => (.conflict, some .streamMap)
  | _ => (.full, none)

/-- The action of a RECORD timer (R155, R156): the tune of an IDLE lane, or a RECORD_CONFLICT request at
display 0. -/
def Ev.record (e : Ev) (t : Fin 24) : Ev × TimerOutcome × Option TimerCause :=
  let timer := e.now.timers[t]
  match laneOf timer.lane with
  | none => (e, .fired, none)
  | some i =>
    if e.now.lanes[i].state = .idle then
      match e.now.tuneChecks i timer.service with
      | .error status => (e, timerRefusal status)
      | .ok (r, input) => (e.tuneLane i r input none (some (60 * timer.duration)), .fired, none)
    else
      (e.requestPrompt 0 7
        { lane := some i.val, service := some timer.service,
          event := e.now.timerEvent timer.service, timer := some t.val }, .conflict, some .laneBusy)

/-- The action of a firing timer, with its outcome and cause (R154 to R156). -/
def Ev.timerAction (e : Ev) (t : Fin 24) : Ev × TimerOutcome × Option TimerCause :=
  match e.now.timers[t].action with
  | .remind => (e.remind t, .fired, none)
  | .record => e.record t

/-- The evaluation of one timer at a minute index (R151). -/
def Ev.evaluateTimer (e : Ev) (j : Nat) (t : Fin 24) : Ev :=
  if e.now.timers[t].fires j then
    let e := e.on fun s => s.modTimer t fun r => { r with lastFired := some j }
    let done := e.timerAction t
    (done.1.on fun s => s.modTimer t fun r =>
      { r with lastOutcome := some done.2.1, lastCause := done.2.2, isSet := r.repeats }).notice (.timer t)
  else e

/-- The 24 timers evaluated at a minute index, in rising number (R152). -/
def Ev.evaluateTimers (e : Ev) (j : Nat) : Ev := allTimers.foldl (fun e t => e.evaluateTimer j t) e

/-- The catch-up of a step (R153): every index after the old one up to the new one, in rising order. -/
def Ev.catchUp (e : Ev) (old new : Nat) : Ev :=
  (List.range (new - old)).foldl (fun e n => e.evaluateTimers (old + 1 + n)) e

end Sys2Proof.Machine
end

