-- ==== Sys2Proof/Machine/Time.lean ====
section
/-!
DEFINITION. The clock (spec/07): TIME sections and steps (R123 to R126, R132), the second event (R122, R131) as
every block handles it, and the tick event (R121, R29, R34, R70).
-/

namespace Sys2Proof.Machine

/-- The clock changed. -/
def State.modClock (s : State) (f : Clock → Clock) : State := { s with clock := f s.clock }

/-! ### Steps of network time -/

/-- The DST delta taken from a section's byte (R123). -/
def clampDelta (n : Nat) : Nat := (min n 120) / 15 * 15

/-- A well-formed TIME section counted and its window stored (R123). -/
def Clock.takeWindow (c : Clock) (b : TimeBody) : Clock :=
  { c with
    accepted := raise 65535 c.accepted
    dstStart := b.dstStart
    dstEnd := b.dstEnd
    dstDelta := clampDelta b.dstDelta }

/-- A step of the clock to a new N (R124 to R126): the counts and causes of the status record. -/
def Clock.stepTo (c : Clock) (time : Nat) (change : ClockChange) (d : Option Int) : Clock :=
  { c with
    valid := true
    now := time
    pendingStep := none
    steps := raise 65535 c.steps
    lastChange := some change
    lastStep := d }

/-- The previous index and day taken from local time as it stands (R124, R131, R132). -/
def Clock.markLocal (c : Clock) : Clock :=
  { c with previousIndex := some c.minuteIndex, previousDay := some c.day }

/-- Whether a step's timers are caught up: d from +1 to +300 (R153). -/
def catchesUp (d : Option Int) : Bool :=
  match d with
  | none => false
  | some d => decide (1 ≤ d ∧ d ≤ 300)

/-- Time changed, delivered to its owners (R132): expiry and one rescan (R98, R99), the current entries (R144),
the timers of a small forward step (R153), and the profile block (R171). The old index is the previous
index that the clock held (log entry 9). -/
def Ev.timeChanged (e : Ev) (oldIndex : Option Nat) (d : Option Int) : Ev :=
  let e := (e.on fun s => s.modClock Clock.markLocal).expire.on State.rescan
  let e := e.recomputeCopies
  let e := match oldIndex with
    | some old => if catchesUp d then e.catchUp old e.now.clock.minuteIndex else e
    | none => e
  e.profilesStep

/-- A step of network time (R124 to R126, R132, R133). -/
def Ev.stepClock (e : Ev) (time : Nat) (change : ClockChange) (d : Option Int) : Ev :=
  let old := e.now.clock.previousIndex
  ((e.on fun s => s.modClock fun c => c.stepTo time change d).notice .clock).timeChanged old d

/-- A pending step lost, replaced or cleared (R122, R125, R126): the unconfirmed count rises. -/
def Clock.unconfirm (c : Clock) (next : Option PendingStep) : Clock :=
  { c with pendingStep := next, unconfirmed := raise 255 c.unconfirmed }

/-- The pending step cleared by a message near N, if there is one (R125). -/
def Clock.clearPending (c : Clock) : Clock := if c.pendingStep.isSome then c.unconfirm none else c

/-- The message time of a taken section judged (R124 to R126). -/
def Ev.judgeTime (e : Ev) (time : Nat) : Ev :=
  let c := e.now.clock
  if !c.valid then e.stepClock time .valid none
  else
    let d : Int := (time : Int) - (c.now : Int)
    if d.natAbs ≤ 1 then e.on fun s => s.modClock Clock.clearPending
    else if d.natAbs ≤ 300 then
      (e.on fun s => s.modClock Clock.clearPending).stepClock time .smallStep (some d)
    else
      match c.pendingStep with
      | none => e.on fun s => s.modClock fun c => { c with pendingStep := some ⟨time, 0⟩ }
      | some p =>
        let miss : Int := (time : Int) - ((p.value : Int) + (p.age : Int))
        if miss.natAbs ≤ 2 then e.stepClock time .largeStep (some d)
        else e.on fun s => s.modClock fun c => c.unconfirm (some ⟨time, 0⟩)

/-- A TIME section handed to the clock (R123). -/
def Ev.takeTime (e : Ev) (body : List Byte) : Ev :=
  match parseTimeBody body with
  | none => e.on fun s => s.modClock fun c => { c with malformed := raise 255 c.malformed }
  | some b => (e.on fun s => s.modClock fun c => c.takeWindow b).judgeTime b.time

/-! ### The second event -/

/-- A pending step aged by one second, and dropped at age 60 (R122). -/
def Clock.agePending (c : Clock) : Clock :=
  match c.pendingStep with
  | none => c
  | some p => if 60 ≤ p.age + 1 then c.unconfirm none else { c with pendingStep := some ⟨p.value, p.age + 1⟩ }

/-- The clock at a second event (R122): while VALID, N rises by 1 and a pending step ages. -/
def Clock.countSecond (c : Clock) : Clock :=
  if c.valid then Clock.agePending { c with now := raise maxTime c.now } else c

/-- The minute event that a second event delivers, if any: the new index (R131). -/
def Clock.minuteEvent (c : Clock) : Option Nat :=
  if c.valid && c.previousIndex != some c.minuteIndex then some c.minuteIndex else none

/-- The day event that a second event delivers, if any: the new day (R131). -/
def Clock.dayEvent (c : Clock) : Option Nat :=
  if c.valid && c.previousDay != some c.day then some c.day else none

/-- The timers at a second event: evaluated when it delivers a minute event (R152). -/
def Ev.timersSecond (e : Ev) (minute : Option Nat) : Ev :=
  match minute with
  | some j => e.evaluateTimers j
  | none => e

/-- The lanes whose auto-stop a second event lowers (R36): a lane tuned within the event is not among them. -/
def State.stopping (s : State) : List (Fin 6) :=
  allLanes.filter fun i => s.lanes[i].autoStop.isSome && s.lanes[i].state != .idle

/-- The second event at every block, after the clock has counted it (R122, R98, R144, R152, R168, R36). The
manual leaves open whether the profile block counts before or after the guide's boundaries (R168, R170),
and whether a timer of the same second finds a lane before or after its auto-stop: the two flags say so
(log entry 2). -/
def Ev.secondAt (e : Ev) (profilesFirst timersFirst : Bool) : Ev :=
  let e := e.on fun s => s.modClock Clock.countSecond
  let minute := e.now.clock.minuteEvent
  let day := e.now.clock.dayEvent
  let e := e.on fun s => s.modClock fun c => if c.valid then c.markLocal else c
  let e := e.expireAndRescan
  let e := if profilesFirst then (e.profilesSecond day).recomputeCopies
    else e.recomputeCopies.profilesSecond day
  let stopping := e.now.stopping
  if timersFirst then stopping.foldl Ev.autoStopSecond (e.timersSecond minute)
  else (stopping.foldl Ev.autoStopSecond e).timersSecond minute

/-- The second event, its open orders drawn (log entry 2). -/
def Ev.second (e : Ev) : Ev :=
  let n := e.now.draws
  (e.on fun s => s.draw.draw).secondAt (freeChoice n) (freeChoice (n + 1))

/-! ### The tick event -/

/-- Whether an ACQUIRING lane's dwell has run out (R29). -/
def Lane.dwellOver (l : Lane) : Bool := l.state == .acquiring && decide (l.dwell ≤ l.ticks)

/-- Entry into STALLED (R29). -/
def Lane.stall (l : Lane) : Lane := { l with state := .stalled, lastChange := some .stalled }

/-- Entry into STALLED of a lane whose dwell has run out, with its LANE notice (R29). -/
def Lane.stallIfOver (l : Lane) : Lane × Bool := if l.dwellOver then (l.stall, true) else (l, false)

/-- The silence limit (R34): the health counter forced to 0, and a PASSING lane DEGRADED with a LANE notice.
-/
def Lane.silenceCheck (l : Lane) : Lane × Bool :=
  if l.silenceLimit ≤ l.silence then
    match l.state with
    | .passing => ({ l with health := 0 }.degrade, true)
    | .degraded => ({ l with health := 0 }, false)
    | .idle => (l, false)
    | .acquiring => (l, false)
    | .stalled => (l, false)
    | .lost => (l, false)
    | .surveying => (l, false)
  else (l, false)

/-- The counts of a tick event at a lane (R29, R34). -/
def Lane.countTick (l : Lane) : Lane :=
  if l.state = .idle then l
  else
    { l with
      ticks := raise 65535 l.ticks
      silence := if l.state = .passing ∨ l.state = .degraded then raise 255 l.silence else l.silence }

/-- Whether a survey turn's dwell has run out (R70). -/
def Lane.turnOver (l : Lane) : Bool := l.state == .surveying && decide (l.dwell ≤ l.ticks)

/-- The end of a survey turn whose dwell has run out (R70). -/
def Ev.turnCheck (e : Ev) (i : Fin 6) : Ev := if e.now.lanes[i].turnOver then e.turnDone i else e

/-- A tick event at one lane: the counts, the dwell check, the silence check and the end of a survey turn. -/
def Ev.tickLane (e : Ev) (i : Fin 6) : Ev :=
  ((((e.on fun s => s.modLane i Lane.countTick).lane i Lane.stallIfOver).lane i Lane.silenceCheck).turnCheck i)

/-- A tick event at every lane, in lane order (R29, R34, R70). -/
def Ev.tickLanes (e : Ev) : Ev := allLanes.foldl Ev.tickLane e

/-- The tick phase raised; at the tenth tick it returns to 0 (R121). -/
def State.tickPhaseRaised (s : State) : State :=
  if s.tickPhase + 1 < 10 then { s with tickPhase := s.tickPhase + 1, secondTaken := false }
  else { s with tickPhase := 0, secondTaken := true }

/-- A tick event (R121): at every tenth tick it is also a second event, whose handling falls before or after
that of the tick (R155; log entries 2 and 6). -/
def Ev.tick (e : Ev) : Ev :=
  let e := e.on State.tickPhaseRaised
  if e.now.secondTaken then
    let n := e.now.draws
    let e := e.on State.draw
    if freeChoice n then e.second.tickLanes else e.tickLanes.second
  else e.tickLanes

end Sys2Proof.Machine
end

