-- ==== Sys2Proof/Machine/Intake.lean ====
section
/-!
DEFINITION. A packet on a cable input (spec/01): sync (R1), the examination of R2, continuity (R11), section
assembly and hand-off (R13 to R16), and the programme packet's way through the slot to the lanes and their
gates (R6, R12, R26, R31, R49, R50, R85 to R89).
-/

namespace Sys2Proof.Machine

/-! ### Discards of sections (R15) -/

/-- A section discarded (R15): the record of the entry's route, and a SECTION notice. -/
def Ev.discardSection (e : Ev) (route : SectionKind) (cause : DiscardCause) (input : Input) (stream : Nat) :
    Ev :=
  (e.on fun s => s.modSectionRecord route fun r =>
    { r with discarded := raise 65535 r.discarded, lastCause := some cause,
             lastPair := some (input, stream) }).notice (.sections route)

/-- The assembly of a MESSAGE entry set. -/
def MapEntry.setAssembly (a : Assembly) (en : MapEntry) : MapEntry :=
  match en.role with
  | .message route _ => { en with role := .message route a }
  | .component _ _ => en

/-- Whether an entry is ASSEMBLING. -/
def MapEntry.isAssembling (en : MapEntry) : Bool :=
  match en.role with
  | .message _ (.assembling _ _) => true
  | .message _ .idle => false
  | .component _ _ => false

/-- The route of an entry. -/
def MapEntry.route? (en : MapEntry) : Option SectionKind :=
  match en.role with
  | .message route _ => some route
  | .component _ _ => none

/-- A partial section of an entry discarded with a cause, if the entry is ASSEMBLING (R15). -/
def Ev.discardPartial (e : Ev) (en : MapEntry) (cause : DiscardCause) : Ev :=
  match en.route? with
  | none => e
  | some route =>
    if en.isAssembling then
      (e.discardSection route cause en.input en.stream).on fun s =>
        s.modEntry en.input en.stream (MapEntry.setAssembly .idle)
    else e

/-- Every entry of an input begins again with an absent last count and a clear duplicate mark, and those
ASSEMBLING discard their partial sections (R1, R4). Which discard is the last is not stated (log entry 2).
-/
def Ev.resetContinuity (e : Ev) (input : Input) (cause : DiscardCause) : Ev :=
  let entries := freeOrder e.now.draws (e.now.map.filter fun en => en.input == input && en.isAssembling)
  let e := e.on fun s =>
    { s with
      map := s.map.map fun en =>
        if en.input = input then { en with lastCount := none, duplicateMark := false } else en
      draws := s.draws + 1 }
  entries.foldl (fun e en => e.discardPartial en cause) e

/-! ### Section assembly (R13, R14, R16) -/

/-- A complete section handed to the block that owns its kind (R16). -/
def Ev.handSection (e : Ev) (route : SectionKind) (input : Input) (stream : Nat) (body : List Byte) : Ev :=
  match route with
  | .key =>
    match e.now.slotFor input stream with
    | some k => e.on fun s => s.takeKeys k body
    | none => e
  | .grant => e.takeGrant body
  | .time => e.takeTime body
  | .guide => e.takeGuide body

/-- The body of a whole section: what stands between its header and its check (section 11.9). -/
def sectionBody (bs : List Byte) : List Byte := (bs.drop 3).take (bs.length - 7)

/-- A complete section checked and handed to its owner, or discarded (R14). -/
def Ev.completeSection (e : Ev) (route : SectionKind) (input : Input) (stream : Nat) (bs : List Byte) : Ev :=
  let e := e.on fun s => s.modEntry input stream (MapEntry.setAssembly .idle)
  if crc bs ≠ 0#32 then e.discardSection route .check input stream
  else if (bs.headD 0#8).toNat ≠ route.code then e.discardSection route .kind input stream
  else
    (e.on fun s => s.modSectionRecord route fun r => { r with accepted := raise 65535 r.accepted }).handSection
      route input stream (sectionBody bs)

/-- Bytes gathered, complete or not (R13, R14). -/
def Ev.gather (e : Ev) (route : SectionKind) (input : Input) (stream : Nat) (held : List Byte)
    (expected : Nat) : Ev :=
  if held.length = expected then e.completeSection route input stream held
  else e.on fun s => s.modEntry input stream (MapEntry.setAssembly (.assembling held expected))

/-- The length field of a section header, when the payload holds it whole (R13). -/
def lengthField : List Byte → Option Nat
  | _ :: hi :: lo :: _ => some (nat16 hi lo)
  | _ => none

/-- A start-flagged packet begins a new section (R13). -/
def Ev.beginSection (e : Ev) (route : SectionKind) (input : Input) (stream : Nat) (bs : List Byte) : Ev :=
  match lengthField bs with
  | none => e.discardSection route .length input stream
  | some n =>
    if n < 4 ∨ 1021 < n then e.discardSection route .length input stream
    else e.gather route input stream (bs.take (3 + n)) (3 + n)

/-- A CLEAR packet with a payload at the section collector of an entry (R13, R14). -/
def Ev.collect (e : Ev) (en : MapEntry) (p : Packet) : Ev :=
  match en.role with
  | .component _ _ => e
  | .message route assembly =>
    if startFlag p then
      (e.discardPartial en .restarted).beginSection route en.input en.stream (payload p)
    else
      match assembly with
      | .idle => e
      | .assembling held expected =>
        e.gather route en.input en.stream (held ++ (payload p).take (expected - held.length)) expected

/-! ### Continuity (R11) -/

/-- The outcome of the continuity check. -/
inductive Outcome where
  | accepted
  | duplicate
  | error
  | uncounted
  deriving DecidableEq, Repr

/-- The first row of the table of R11 that applies, with the last count and the duplicate mark after it; a
packet without a payload is UNCOUNTED and leaves the record unchanged. -/
def MapEntry.continuity (en : MapEntry) (p : Packet) : Outcome × Option (BitVec 4) × Bool :=
  let k := sequenceCount p
  if !hasPayload p then (.uncounted, en.lastCount, en.duplicateMark)
  else
    match en.lastCount with
    | none => (.accepted, some k, false)
    | some last =>
      if discontinuityFlag p then (.accepted, some k, false)
      else if k = last + 1 then (.accepted, some k, false)
      else if k = last then
        if en.duplicateMark then (.error, some last, true) else (.duplicate, some last, true)
      else (.error, some k, false)

/-- The lead arrival's view of a continuity outcome (R26). -/
def Outcome.lead : Outcome → LeadOutcome
  | .accepted => .accepted
  | .duplicate => .duplicate
  | .error => .error
  | .uncounted => .uncounted

/-! ### Lanes of an entry -/

/-- Whether an entry is the lead entry of a lane (R26). -/
def State.isLead (s : State) (en : MapEntry) (i : Fin 6) : Bool :=
  s.lanes[i].input == some en.input &&
    match s.laneService? i with
    | none => false
    | some r => (r.components.head?.map fun c => c.stream) == some en.stream

/-- The lead arrivals of one packet: one for each lane of the set for which the entry is the lead entry
(R26). -/
def Ev.leadArrivals (e : Ev) (en : MapEntry) (destinations : List (Fin 6)) (a : LeadArrival) : Ev :=
  destinations.foldl (fun e i => if e.now.isLead en i then e.leadArrival i a else e) e

/-- The error reports of one packet (R12). -/
def Ev.errorReports (e : Ev) (destinations : List (Fin 6)) : Ev := destinations.foldl Ev.errorReport e

/-- A packet that is error-flagged or RESERVED (R2 steps 3 and 4), with the continuity record it leaves. -/
def Ev.damaged (e : Ev) (en : MapEntry) (p : Packet) (lastCount : Option (BitVec 4)) (mark : Bool) : Ev :=
  let e := e.on fun s => s.modEntry en.input en.stream fun en =>
    { en with lastCount := lastCount, duplicateMark := mark }
  match en.role with
  | .message _ _ => e.discardPartial en .packetError
  | .component destinations slot =>
    (e.errorReports destinations).leadArrivals en destinations
      { outcome := .damaged, delivered := false, descrambled := false, scrambledService := slot.isSome,
        phase := wirePhase p, entryPoint := entryPointFlag p }

/-- A MESSAGE packet after its continuity check (R6, R11). -/
def Ev.messagePacket (e : Ev) (en : MapEntry) (p : Packet) (o : Outcome) : Ev :=
  match o with
  | .duplicate => e
  | .uncounted => e
  | .accepted => if wirePhase p = .clear then e.collect en p else e
  | .error =>
    let e := e.discardPartial en .continuity
    if wirePhase p = .clear then e.collect (en.setAssembly .idle) p else e

/-- What the slot of a COMPONENT entry, if it has one, makes of a packet (R6, R85 to R87): the packet that goes
to the lanes, whether it was descrambled, and ACCESS for the slot's users. -/
def State.slotVerdict (s : State) (slot : Option (Fin 16)) (p : Packet) :
    Option Packet × Bool × Option (Fin 16 × KeySlot × Option Bool) :=
  match slot with
  | none => (some p, false, none)
  | some k =>
    match s.slots[k] with
    | none => (some p, false, none)
    | some r =>
      let v := r.treat p
      (v.packet, v.descrambled, some (k, v.slot, v.access))

/-- The effect of a packet on its slot and on ACCESS of the slot's users (R86, R87). -/
def State.slotEffect (s : State) : Option (Fin 16 × KeySlot × Option Bool) → State
  | none => s
  | some (k, r, access) =>
    let s := s.setSlot k (some r)
    match access with
    | none => s
    | some a => s.setAccess r.users a

/-- The packet at the gates of its lanes, each by its own state (R50, R51). -/
def Ev.offers (e : Ev) (en : MapEntry) (destinations : List (Fin 6)) (p : Packet) (accepted : Bool) : Ev :=
  destinations.foldl (fun e i =>
    e.lane i fun l => l.offer p (accepted && entryPointFlag p && e.now.isLead en i)) e

/-- A COMPONENT packet after its continuity check, in the order of R12 and R89: error report, lead arrival,
good event, ACCESS, the gates worked out (R49), and the packet at each gate. -/
def Ev.componentPacket (e : Ev) (en : MapEntry) (destinations : List (Fin 6)) (slot : Option (Fin 16))
    (p : Packet) (o : Outcome) : Ev :=
  let arrival : LeadArrival :=
    { outcome := o.lead, delivered := false, descrambled := false, scrambledService := slot.isSome,
      phase := wirePhase p, entryPoint := entryPointFlag p }
  if o = .duplicate then e.leadArrivals en destinations arrival
  else
    let verdict := e.now.slotVerdict slot p
    let e := if o = .error then e.errorReports destinations else e
    let e := e.leadArrivals en destinations
      { arrival with delivered := verdict.1.isSome, descrambled := verdict.2.1 }
    let e := if o = .accepted ∧ verdict.1.isSome then destinations.foldl Ev.goodEvent e else e
    let e := (e.on fun s => s.slotEffect verdict.2.2).closeGates
    match verdict.1 with
    | none => e
    | some q => e.offers en destinations q (o = .accepted)

/-- A packet with a good sync value at its entry (R2 steps 3 to 5). -/
def Ev.entryPacket (e : Ev) (en : MapEntry) (p : Packet) : Ev :=
  if errorFlag p then e.damaged en p none false
  else if wirePhase p = .reserved then
    if hasPayload p then e.damaged en p (some (sequenceCount p)) false
    else e.damaged en p en.lastCount en.duplicateMark
  else
    let c := en.continuity p
    let e := e.on fun s => s.modEntry en.input en.stream fun en =>
      { en with lastCount := c.2.1, duplicateMark := c.2.2 }
    match en.role with
    | .message _ _ => e.messagePacket en p c.1
    | .component destinations slot => e.componentPacket en destinations slot p c.1

/-- A packet whose sync value is not 0x47 (R1). -/
def Ev.badSync (e : Ev) (input : Input) : Ev :=
  if (e.now.input input).sync = .inSync then
    (e.on fun s => s.modInput input fun r => { r with sync := .outOfSync }).resetContinuity input .sync
  else e

/-- A packet arriving on a cable input (R1, R2). -/
def Ev.cable (e : Ev) (input : Input) (p : Packet) : Ev :=
  if !syncGood p then e.badSync input
  else
    let e := e.on fun s => s.modInput input fun r => { r with sync := .inSync }
    if streamNumber p = 8191 then e
    else
      match e.now.entry? input (streamNumber p) with
      | none => e
      | some en => e.entryPacket en p

end Sys2Proof.Machine
end

