-- ==== Sys2Proof/Machine/Events.lean ====
section
/-!
DEFINITION. The events of the cable inputs and of the time base: CABLE_PACKET (R2), TICK_EVENT (R121) and
SECOND_EVENT (R122) with the parts of them that spec/opcode_table.json lists as rows of their own. Such a
part is done within its tick or second event; delivered by itself it does that part for its subject when
its condition holds, and nothing otherwise (log entry 11).
-/

namespace Sys2Proof.Machine

/-- CABLE_PACKET (R1, R2): the demodulator's error line sets the packet's error flag (spec/00, Signals). -/
def execCablePacket (input : Input) (errorLine : Bool) (packet : Packet) (s : State) : Answer :=
  event (fun e => e.cable input (if errorLine then setErrorFlag packet else packet)) s

/-- TICK_EVENT (R121, R29, R34, R70). -/
def execTickEvent (s : State) : Answer := event (fun e => e.keepingRetaken Ev.tick) s

/-- STALLED (R29): an ACQUIRING lane whose ticks since tune have reached the acquire dwell. -/
def execStalled (lane : Fin 6) (s : State) : Answer :=
  event (fun e => e.lane lane Lane.stallIfOver) s

/-- SILENCE_LIMIT (R34): a lane whose silence count has reached the silence limit. -/
def execSilenceLimit (lane : Fin 6) (s : State) : Answer :=
  event (fun e => e.lane lane Lane.silenceCheck) s

/-- SURVEY_TURN_END (R70): a SURVEYING lane whose ticks since tune have reached the dwell. -/
def execSurveyTurnEnd (lane : Fin 6) (s : State) : Answer :=
  event (fun e => e.keepingRetaken fun e => e.turnCheck lane) s

/-- The second event as a row: when the tick event that is also this second event has handled it, the two are
one event and nothing more happens (R121, log entry 6). -/
def Ev.secondRow (e : Ev) : Ev :=
  if e.now.secondTaken then e.on fun s => { s with secondTaken := false } else e.second

/-- SECOND_EVENT (R122, R98, R144, R152, R168, R36). -/
def execSecondEvent (s : State) : Answer := event (fun e => e.keepingRetaken Ev.secondRow) s

/-- Whether a lane's auto-stop stands at its last second (R36). -/
def Lane.lastSecond (l : Lane) : Bool := l.state != .idle && l.autoStop.any fun n => decide (n ≤ 1)

/-- AUTO_STOPPED (R36): the auto-stop remaining of a lane reaches 0. -/
def execAutoStopped (lane : Fin 6) (s : State) : Answer :=
  event (fun e => if e.now.lanes[lane].lastSecond then e.autoStopSecond lane else e) s

/-- LOCKOUT_ENDED (R173): the lockout remaining of a profile reaches 0. -/
def execLockoutEnded (profile : Fin 4) (s : State) : Answer :=
  event (fun e => if e.now.profiles[profile].lockout = 1 then e.lockoutSecond profile else e) s

/-- PERIOD_ENDED (R176, R167 point 6): the period override of a profile reaches 0, and its lanes are
evaluated. -/
def execPeriodEnded (profile : Fin 4) (s : State) : Answer :=
  event (fun e =>
    if e.now.profiles[profile].period = 1 then
      (e.periodSecond profile).on fun s => s.evaluateProfile profile
    else e) s

/-- Whether the pending step stands one second before its drop (R122). -/
def Clock.pendingAtLimit (c : Clock) : Bool := c.valid && c.pendingStep.any fun p => decide (59 ≤ p.age)

/-- PENDING_STEP_DROP (R122): a pending step reaches age 60. -/
def execPendingStepDrop (s : State) : Answer :=
  event (fun e => e.on fun s => if s.clock.pendingAtLimit then s.modClock Clock.agePending else s) s

/-- EXPIRED (R98, R99): grants whose end is not greater than N are removed. -/
def execExpired (s : State) : Answer := event Ev.expireAndRescan s

/-- TIMER_FIRE (R151): a timer evaluated at a minute index, which happens only while the clock is VALID. -/
def execTimerFire (timer : Fin 24) (index : Word32) (s : State) : Answer :=
  event (fun e => if e.now.clock.valid then e.evaluateTimer index.toNat timer else e) s

end Sys2Proof.Machine
end

