-- ==== Sys2Proof/Machine/LaneCommands.lean ====
section
/-!
DEFINITION. The commands that work the lanes, codes 0x20 to 0x23 and 0x2B: TUNE (R24, R25, R72), UNTUNE (R35,
R72), LANE CONTROL (R54), SURVEY (R65) and CLEAR KEYS (R91).
-/

namespace Sys2Proof.Machine

/-- TUNE (R24, R25): on lanes 2 to 5 the profile parameter is not examined and the profile becomes none. -/
def Ev.tune (e : Ev) (lane service profile : Nat) : Reply :=
  match laneOf lane with
  | none => e.refuse .range
  | some i =>
    if i.val < 2 ∧ 3 < profile then e.refuse .range
    else
      match e.now.tuneChecks i service with
      | .error status => e.refuse status
      | .ok (r, input) =>
        ((e.abortIfSurveying i).tuneLane i r input (if i.val < 2 then profileOf profile else none) none).ok

/-- TUNE. -/
def execTune (tag : Word16) (lane : Byte) (service : Word16) (profile : Byte) (s : State) : Answer :=
  command tag 0x20 (fun e => e.tune lane.toNat service.toNat profile.toNat) s

/-- UNTUNE (R35). -/
def Ev.untune (e : Ev) (lane : Nat) : Reply :=
  match laneOf lane with
  | none => e.refuse .range
  | some i =>
    if e.now.lanes[i].state = .idle then e.ok
    else ((e.abortIfSurveying i).untuneLane i .untuned).ok

/-- UNTUNE. -/
def execUntune (tag : Word16) (lane : Byte) (s : State) : Answer :=
  command tag 0x21 (fun e => e.untune lane.toNat) s

/-- A reason after an action of LANE CONTROL: 0 LEAVE, 1 SET, 2 CLEAR (R54). -/
def actOn (action : Nat) (present : Bool) : Bool :=
  if action = 1 then true else if action = 2 then false else present

/-- LANE CONTROL (R54). Its response carries the gate state, the reason set and, as R61 adds, the overrun count
(log entry 32 for its place). -/
def Ev.laneControl (e : Ev) (lane hold blank : Nat) : Reply :=
  match laneOf lane with
  | none => e.refuse .range
  | some i =>
    if 2 < hold ∨ 2 < blank then e.refuse .range
    else if e.now.lanes[i].state = .idle then e.refuse .noSuch
    else if e.now.lanes[i].state = .surveying then e.refuse .busy
    else
      (e.on fun s => s.modLane i fun l =>
        { l with reasons := { l.reasons with
            hostHold := actOn hold l.reasons.hostHold
            hostBlank := actOn blank l.reasons.hostBlank } }).ok fun s =>
        [.num 1 s.lanes[i].gate.code, .num 1 s.lanes[i].reasons.toByte, .num 2 s.lanes[i].overruns]

/-- LANE_CONTROL. -/
def execLaneControl (tag : Word16) (lane hold blank : Byte) (s : State) : Answer :=
  command tag 0x22 (fun e => e.laneControl lane.toNat hold.toNat blank.toNat) s

/-- SURVEY (R65). -/
def Ev.survey (e : Ev) (lane : Nat) (services : List Nat) : Reply :=
  match laneOf lane with
  | none => e.refuse .range
  | some i =>
    if e.now.lanes[i].state ≠ .idle then e.refuse .busy
    else if services.length = 0 ∨ 16 < services.length then e.refuse .range
    else (e.startSurvey i services).ok

/-- SURVEY. -/
def execSurvey (tag : Word16) (lane : Byte) (services : List Word16) (s : State) : Answer :=
  command tag 0x23 (fun e => e.survey lane.toNat (services.map fun n => n.toNat)) s

/-- A slot whose halves and candidates are emptied and whose phase in use is NONE (R91). -/
def KeySlot.cleared (k : KeySlot) : KeySlot :=
  { k with phase := none, even := ⟨none, none⟩, odd := ⟨none, none⟩ }

/-- CLEAR KEYS (R91). -/
def Ev.clearKeys (e : Ev) (slot : Nat) : Reply :=
  match slotOf slot with
  | none => e.refuse .range
  | some k =>
    if e.now.slots[k].isNone then e.refuse .noSuch
    else (e.on fun s => s.modSlot k KeySlot.cleared).ok

/-- CLEAR_KEYS. -/
def execClearKeys (tag : Word16) (slot : Byte) (s : State) : Answer :=
  command tag 0x2B (fun e => e.clearKeys slot.toNat) s

end Sys2Proof.Machine
end

