-- ==== Sys2Proof/Machine/Outputs.lean ====
section
/-!
DEFINITION. The outputs: the decoder outputs (R58), the recorder arbiter (R59, R60), the return port (R201) and
the notice moves (R204). A take carries the level of the ready line as it is sampled (log entry 8).
-/

namespace Sys2Proof.Machine

/-- A take by a FREE decoder output with its ready line asserted and its lane's buffer FULL (R58). -/
def State.decoderTake (s : State) (d : Fin 2) : State :=
  let i := laneOfDisplay d
  if s.decoders[d].isNone then
    match s.lanes[i].buffer.packet? i with
    | none => s
    | some p =>
      { (s.modLane i fun l => { l with buffer := .empty }) with decoders := s.decoders.set d.val (some p) d.isLt }
  else s

/-- DECODER_OUTPUT_TAKE (R58). -/
def execDecoderOutputTake (display : Fin 2) (ready : Bool) (s : State) : Answer :=
  if s.resetHeld then .next s
  else
    let s := { s with decoderReady := s.decoderReady.set display.val ready display.isLt }
    .next (if ready then s.decoderTake display else s)

/-- The lane that the recorder arbiter grants: the first in cyclic order after last granted whose buffer is
FULL (R59). The buffers that one packet fills together, in two recording lanes of one entry, are not told apart by
the moment of filling: that they too are granted in cyclic order is THE MODEL'S CHOICE, where R59 lets the first of
them to be taken be granted (log entry 33). -/
def State.recorderNext (s : State) : Option (Fin 4) :=
  ([1, 2, 3, 4].map fun n => Fin.ofNat 4 (s.lastGranted.val + n)).find? fun r =>
    s.lanes[recordingLane r].buffer != .empty

/-- A grant of the recorder arbiter (R59, R60). -/
def State.recorderTake (s : State) : State :=
  if s.recorder.isNone then
    match s.recorderNext with
    | none => s
    | some r =>
      let i := recordingLane r
      match s.lanes[i].buffer.packet? i with
      | none => s
      | some p =>
        { (s.modLane i fun l => { l with buffer := .empty }) with
          recorder := some ⟨r, s.lanes[i].buffer == .blankOrder, p⟩
          lastGranted := r }
  else s

/-- RECORDER_GRANT (R59). -/
def execRecorderGrant (ready : Bool) (s : State) : Answer :=
  if s.resetHeld then .next s
  else
    let s := { s with recorderReady := ready }
    .next (if ready then s.recorderTake else s)

/-- A take by the FREE return port of the packet at the head of the return queue (R201). -/
def State.returnTake (s : State) : State :=
  if s.returnPort.isNone then
    match s.returnQueue with
    | [] => s
    | p :: rest => { s with returnQueue := rest, returnPort := some p }
  else s

/-- RETURN_PORT_TAKE (R201). -/
def execReturnPortTake (ready : Bool) (s : State) : Answer :=
  if s.resetHeld then .next s
  else
    let s := { s with returnReady := ready }
    .next (if ready then s.returnTake else s)

/-- A port FREE after the last byte of its packet or frame (R58, R59, R201). -/
def State.freePort (s : State) : OutPort → State
  | .decoder d => { s with decoders := s.decoders.set d.val none d.isLt }
  | .recorder => { s with recorder := none }
  | .returnPort => { s with returnPort := none }

/-- SEND_COMPLETE (R58, R59, R201). -/
def execSendComplete (port : OutPort) (s : State) : Answer := .next (s.freePort port)

/-- What the move of a notice does to its owner: a PROMPT notice empties the display's report set (R193,
R204). -/
def State.noticeMoved (s : State) : Notice → State
  | .prompt d => s.modArbiter d fun a => { a with report := .nothing }
  | .lane _ => s
  | .survey _ => s
  | .timer _ => s
  | .clock => s
  | .grant => s
  | .sections _ => s
  | .profile _ => s

/-- The move of the notice at the head of the pending list, with its snapshot, while the return queue has at
least two free places (R204, R205). -/
def State.moveNotice (s : State) : State :=
  match s.notices with
  | [] => s
  | n :: rest =>
    if s.returnQueue.length ≤ 14 then
      ({ s with notices := rest }.enqueue (.notice n (encode s.draws (s.snapshot n)))).noticeMoved n
    else s

/-- NOTICE_MOVE (R204). -/
def execNoticeMove (s : State) : Answer := if s.resetHeld then .next s else .next s.moveNotice

end Sys2Proof.Machine
end

