-- ==== Sys2Proof/Machine/PromptCommands.lean ====
section
/-!
DEFINITION. The commands to the prompt arbiters, codes 0x27 to 0x2A: POLL PROMPT and END PROMPT (R188, R189),
MASK PROMPT (R190) and ORDER PROMPT (R191).
-/

namespace Sys2Proof.Machine

/-- POLL PROMPT (R188). NONE as a kind is 255 (R209). -/
def Ev.pollPrompt (e : Ev) (display : Nat) : Reply :=
  match displayOf display with
  | none => e.refuse .range
  | some d =>
    match (e.now.arbiters[d]).eligible.head? with
    | none => e.ok fun _ => [.num 1 255]
    | some k =>
      (e.on fun s => s.modArbiter d fun a => a.push k).ok fun s =>
        .num 1 k.val :: ((s.arbiters[d]).entries[k]).context.fields ++ [.num 1 (s.arbiters[d]).stack.length]

/-- POLL_PROMPT. -/
def execPollPrompt (tag : Word16) (display : Byte) (s : State) : Answer :=
  command tag 0x27 (fun e => e.pollPrompt display.toNat) s

/-- The kind that END PROMPT ends: the top for NONSPECIFIC (255), or the named kind if it is IN_SERVICE
(R188). -/
def Arbiter.kindToEnd (a : Arbiter) (kind : Nat) : Option (Fin 8) :=
  if kind = 255 then a.top
  else
    match kindOf kind with
    | some k => if a.entries[k].state = .inService then some k else none
    | none => none

/-- END PROMPT (R188, R189). -/
def Ev.endPrompt (e : Ev) (display kind : Nat) : Reply :=
  match displayOf display with
  | none => e.refuse .range
  | some d =>
    if 7 < kind ∧ kind ≠ 255 then e.refuse .range
    else
      match (e.now.arbiters[d]).kindToEnd kind with
      | none => e.refuse .noSuch
      | some k =>
        (e.on fun s => s.modArbiter d fun a => a.endKind k (s.level d k).isSome).ok fun s =>
          [.num 1 k.val, .num 1 ((s.arbiters[d]).entries[k]).state.code, .num 1 (s.arbiters[d]).lowest.val,
            .ones 1 ((s.arbiters[d]).top.map (·.val))]

/-- END_PROMPT. -/
def execEndPrompt (tag : Word16) (display kind : Byte) (s : State) : Answer :=
  command tag 0x28 (fun e => e.endPrompt display.toNat kind.toNat) s

/-- The masked flags taken from a masked set, kind k in bit k (R190, R209). -/
def Arbiter.setMasks (a : Arbiter) (masked : Byte) : Arbiter :=
  { a with entries := Vector.ofFn fun k => { a.entries[k] with masked := masked.getLsbD k.val } }

/-- The masked set as stored (R190). -/
def Arbiter.maskedSet (a : Arbiter) : List (Fin 8) := allKinds.filter fun k => a.entries[k].masked

/-- MASK PROMPT (R190). -/
def Ev.maskPrompt (e : Ev) (display : Nat) (masked : Byte) : Reply :=
  match displayOf display with
  | none => e.refuse .range
  | some d =>
    (e.on fun s => s.modArbiter d fun a => a.setMasks masked).ok fun s =>
      [.num 1 (setByte (s.arbiters[d]).maskedSet)]

/-- MASK_PROMPT. -/
def execMaskPrompt (tag : Word16) (display masked : Byte) (s : State) : Answer :=
  command tag 0x29 (fun e => e.maskPrompt display.toNat masked) s

/-- ORDER PROMPT (R191). -/
def Ev.orderPrompt (e : Ev) (display lowest autoRotate : Nat) : Reply :=
  match displayOf display, kindOf lowest with
  | some d, some k =>
    if 1 < autoRotate then e.refuse .range
    else if (e.now.arbiters[d]).stack ≠ [] then e.refuse .busy
    else
      (e.on fun s => s.modArbiter d fun a => { a with lowest := k, autoRotate := autoRotate == 1 }).ok
        fun s => [.num 1 (s.arbiters[d]).lowest.val, flag (s.arbiters[d]).autoRotate]
  | _, _ => e.refuse .range

/-- ORDER_PROMPT. -/
def execOrderPrompt (tag : Word16) (display lowest autoRotate : Byte) (s : State) : Answer :=
  command tag 0x2A (fun e => e.orderPrompt display.toNat lowest.toNat autoRotate.toNat) s

end Sys2Proof.Machine
end

