-- ==== Sys2Proof/Machine/Purchases.lean ====
section
/-!
DEFINITION. The commands that ask for a PIN or move credit, codes 0x24 to 0x26: PURCHASE (R109 to R112), CANCEL
(R114) and UNLOCK (R174 to R177).
-/

namespace Sys2Proof.Machine

/-! ### PURCHASE -/

/-- The guide entry of a purchase (R109): among the matching entries the earliest-starting one whose end is
greater than N, and when all have ended the latest-starting one. Of two with one start, the first in table order is
THE MODEL'S CHOICE (log entry 30). -/
def State.purchaseEntry (s : State) (service event : Nat) : Option GuideEntry :=
  let found := s.guide.entries.filter fun g => g.service == service && g.event == event
  match firstBest (fun a b => decide (a.start < b.start))
      (found.filter fun g => decide (s.clock.now < g.stop)) with
  | some g => some g
  | none => firstBest (fun a b => decide (b.start < a.start)) found

/-- Whether the table holds a PURCHASE grant of a product (R110 check 8). -/
def State.purchased (s : State) (product : Nat) : Bool :=
  s.entitlement.grants.any fun g => g.isFor product .purchase

/-- Checks 4 to 10 of R110, once the PIN has matched; `own` says whether it matched the profile's own PIN. -/
def State.purchaseChecks (s : State) (p : Fin 4) (own : Bool) (service event : Nat) :
    Except Status GuideEntry :=
  if own && !s.profiles[p].purchaseAllowed then .error .refused
  else
    match s.purchaseEntry service event with
    | none => .error .noSuch
    | some g =>
      if g.price = 0 then .error .notOffered
      else if g.stop ≤ s.clock.now then .error .tooLate
      else if s.covered g.product (max s.clock.now g.start) || s.purchased g.product then .error .already
      else if s.entitlement.ceiling < s.entitlement.spent + g.price then .error .noCredit
      else if 32 ≤ s.entitlement.log.length then .error .logFull
      else .ok g

/-- The record that a purchase appends (R112). -/
def State.purchaseRecord (s : State) (p : Fin 4) (g : GuideEntry) : PurchaseRecord where
  sequence := s.entitlement.nextSequence
  event := g.event
  service := g.service
  product := g.product
  price := g.price
  time := s.clock.now
  profile := p
  state := .active

/-- An accepted purchase at the log, the credit and the grant table (R107, R108, R112). -/
def State.buy (s : State) (p : Fin 4) (g : GuideEntry) : State :=
  { s with entitlement := { s.entitlement with
      log := s.entitlement.log ++ [s.purchaseRecord p g]
      nextSequence := (s.entitlement.nextSequence + 1) % 65536
      spent := s.entitlement.spent + g.price
      grants := placeGrant ⟨g.product, .purchase, g.start, some g.stop, some s.entitlement.nextSequence⟩
        s.entitlement.grants } }

/-- Whether a PIN matches the master PIN for a purchase: profile 0's lockout must not be running (R111). -/
def State.masterMatches (s : State) (pin : Nat) : Bool :=
  (s.profiles[(0 : Fin 4)]).pinMatches pin && decide ((s.profiles[(0 : Fin 4)]).lockout = 0)

/-- Check 11 of R110 and the acceptance (R112): expired grants cleared first, and one rescan at the close
(R99). -/
def Ev.completePurchase (e : Ev) (p : Fin 4) (g : GuideEntry) : Reply :=
  let cleared := e.expire
  if 48 ≤ cleared.now.entitlement.grants.length then e.expireAndRescan.refuse .full
  else
    let sequence := cleared.now.entitlement.nextSequence
    (cleared.on fun s => (s.buy p g).rescan).ok fun s =>
      [.num 2 sequence, .num 2 g.price, .num 4 g.start, .num 4 g.stop, .num 2 s.entitlement.spent,
        .num 2 s.entitlement.ceiling]

/-- PURCHASE from check 4 on, with the PIN found correct (R111). -/
def Ev.purchaseWithPin (e : Ev) (p : Fin 4) (own : Bool) (service event : Nat) : Reply :=
  let e := e.correctPin p
  match e.now.purchaseChecks p own service event with
  | .error status => e.refuse status
  | .ok g => e.completePurchase p g

/-- PURCHASE (R109 to R112). -/
def Ev.purchase (e : Ev) (profile pin service event : Nat) : Reply :=
  match profileOf profile with
  | none => e.refuse .range
  | some p =>
    if 9999 < pin then e.refuse .range
    else if !e.now.clock.valid then e.refuse .noClock
    else if 0 < e.now.profiles[p].lockout then e.refuse .lockedOut
    else
      let own := e.now.profiles[p].pinMatches pin
      if own || e.now.masterMatches pin then e.purchaseWithPin p own service event
      else (e.wrongPin p).refuse .badPin

/-- PURCHASE. -/
def execPurchase (tag : Word16) (profile : Byte) (pin service eventId : Word16) (s : State) : Answer :=
  command tag 0x24 (fun e => e.purchase profile.toNat pin.toNat service.toNat eventId.toNat) s

/-! ### CANCEL -/

/-- Whether a grant is the PURCHASE grant of a record (R112, R114): its product and its sequence are the record's.
A grant of a collected record, which R105 leaves in the table, may share the sequence after the wrap (log entry
34), never product and sequence. -/
def Grant.ofRecord (g : Grant) (r : PurchaseRecord) : Bool :=
  g.isFor r.product .purchase && g.sequence == some r.sequence

/-- The ACTIVE record of a sequence (R114 check 1). -/
def State.activeRecord (s : State) (sequence : Nat) : Option PurchaseRecord :=
  s.entitlement.log.find? fun r => r.sequence == sequence && r.state == .active

/-- An accepted CANCEL (R114). -/
def State.cancelPurchase (s : State) (r : PurchaseRecord) : State :=
  { s with entitlement := { s.entitlement with
      log := s.entitlement.log.map fun q =>
        if q.sequence = r.sequence ∧ q.state = .active then { q with state := .cancelled } else q
      spent := s.entitlement.spent - r.price
      grants := s.entitlement.grants.filter fun g => !g.ofRecord r } }

/-- CANCEL (R114). -/
def Ev.cancel (e : Ev) (sequence : Nat) : Reply :=
  match e.now.activeRecord sequence with
  | none => e.refuse .noSuch
  | some r =>
    if !e.now.clock.valid then e.refuse .noClock
    else
      match e.now.entitlement.grants.find? fun g => g.ofRecord r with
      | none => e.refuse .tooLate
      | some g =>
        if g.start ≤ e.now.clock.now then e.refuse .tooLate
        else
          (e.on fun s => (s.cancelPurchase r).rescan).ok fun s =>
            [.num 2 sequence, .num 2 s.entitlement.spent, .num 2 s.entitlement.ceiling]

/-- CANCEL. -/
def execCancel (tag : Word16) (sequence : Word16) (s : State) : Answer :=
  command tag 0x25 (fun e => e.cancel sequence.toNat) s

/-! ### UNLOCK -/

/-- Check (1) of UNLOCK (R174): scopes are 0 RATING, 1 PERIOD, 2 BUDGET. -/
def unlockOutOfRange (pin scope target minutes : Nat) : Bool :=
  decide (9999 < pin ∨ 2 < scope ∨ (scope = 0 ∧ 5 < target) ∨ (scope ≠ 0 ∧ (3 < target ∨ minutes = 0)))

/-- The programme override of UNLOCK with scope RATING (R175). -/
def Lane.overrideNow (l : Lane) : ProgrammeOverride :=
  match l.copy with
  | some g => .event g.event
  | none => .unguided

/-- UNLOCK with scope RATING, from check (4) on (R174, R175). -/
def Ev.unlockRating (e : Ev) (target : Nat) : Reply :=
  match laneOf target with
  | none => e.refuse .noSuch
  | some i =>
    if 2 ≤ i.val ∨ e.now.lanes[i].state = .idle ∨ e.now.lanes[i].state = .surveying then e.refuse .noSuch
    else
      (e.on fun s => (s.modLane i fun l => { l with override := some l.overrideNow }).evaluate i).ok fun s =>
        [.override s.lanes[i].override]

/-- UNLOCK with scope PERIOD (R176). -/
def Ev.unlockPeriod (e : Ev) (target minutes : Nat) : Reply :=
  match profileOf target with
  | none => e.refuse .range
  | some p =>
    (e.on fun s => (s.modProfile p fun r => { r with period := 60 * min minutes 240 }).evaluateProfile p).ok
      fun s => [.num 2 s.profiles[p].period]

/-- UNLOCK with scope BUDGET (R177). -/
def Ev.unlockBudget (e : Ev) (target minutes : Nat) : Reply :=
  match profileOf target with
  | none => e.refuse .range
  | some p =>
    (e.on fun s => (s.modProfile p fun r =>
      { r with extension := min (r.extension + 60 * min minutes 1440) 86400 }).evaluateProfile p).ok
      fun s => [.num 4 s.profiles[p].extension]

/-- UNLOCK (R174). -/
def Ev.unlock (e : Ev) (pin scope target minutes : Nat) : Reply :=
  if unlockOutOfRange pin scope target minutes then e.refuse .range
  else if 0 < (e.now.profiles[(0 : Fin 4)]).lockout then e.refuse .lockedOut
  else if !(e.now.profiles[(0 : Fin 4)]).pinMatches pin then (e.wrongPin 0).refuse .badPin
  else
    let e := e.correctPin 0
    if scope = 0 then e.unlockRating target
    else if scope = 1 then e.unlockPeriod target minutes
    else e.unlockBudget target minutes

/-- UNLOCK. -/
def execUnlock (tag : Word16) (pin : Word16) (scope target : Byte) (minutes : Word16) (s : State) : Answer :=
  command tag 0x26 (fun e => e.unlock pin.toNat scope.toNat target.toNat minutes.toNat) s

end Sys2Proof.Machine
end

