-- ==== Sys2Proof/Machine/Reads.lean ====
section
/-!
DEFINITION. The READ commands, codes 0x40 to 0x49. Each returns one record as it stands and changes nothing:
lane (R44), service (R21), key slot (R92), grant (R117), log (R118), guide (R147), survey (R74), clock
(R134), profile (R161) and timer (R150).
-/

namespace Sys2Proof.Machine

/-- READ LANE (R44). -/
def Ev.readLane (e : Ev) (lane : Nat) : Reply :=
  match laneOf lane with
  | none => e.refuse .range
  | some i => e.ok fun s => (s.lanes[i]).fields

/-- READ_LANE. -/
def execReadLane (tag : Word16) (lane : Byte) (s : State) : Answer :=
  command tag 0x40 (fun e => e.readLane lane.toNat) s

/-- READ SERVICE (R21). -/
def Ev.readService (e : Ev) (service : Nat) : Reply :=
  match e.now.service? service with
  | none => e.refuse .noSuch
  | some r => e.ok fun _ => r.fields

/-- READ_SERVICE. -/
def execReadService (tag : Word16) (service : Word16) (s : State) : Answer :=
  command tag 0x41 (fun e => e.readService service.toNat) s

/-- READ SLOT (R92). -/
def Ev.readSlot (e : Ev) (slot : Nat) : Reply :=
  match slotOf slot with
  | none => e.refuse .range
  | some k => e.ok fun s => slotFields k s.slots[k]

/-- READ_SLOT. -/
def execReadSlot (tag : Word16) (slot : Byte) (s : State) : Answer :=
  command tag 0x42 (fun e => e.readSlot slot.toNat) s

/-- READ GRANT (R117). -/
def Ev.readGrant (e : Ev) (index : Nat) : Reply :=
  if 47 < index then e.refuse .range
  else e.ok fun s => s.entitlement.fields ++ (match s.entitlement.grants[index]? with
    | some g => g.fields
    | none => [])

/-- READ_GRANT. -/
def execReadGrant (tag : Word16) (index : Byte) (s : State) : Answer :=
  command tag 0x43 (fun e => e.readGrant index.toNat) s

/-- READ LOG (R118). -/
def Ev.readLog (e : Ev) (index : Nat) : Reply :=
  if 31 < index then e.refuse .range
  else e.ok fun s =>
    [.num 1 s.entitlement.log.length, .num 2 s.entitlement.nextSequence, .num 2 s.entitlement.spent,
      .num 2 s.entitlement.ceiling] ++ (match s.entitlement.log[index]? with
        | some r => r.fields
        | none => [])

/-- READ_LOG. -/
def execReadLog (tag : Word16) (index : Byte) (s : State) : Answer :=
  command tag 0x44 (fun e => e.readLog index.toNat) s

/-- The entries of a service in start order (R147). -/
def State.serviceEntries (s : State) (service : Nat) : List GuideEntry :=
  s.guide.entries.filter fun g => g.service == service

/-- READ GUIDE (R147). -/
def Ev.readGuide (e : Ev) (service index : Nat) : Reply :=
  if service = 0 ∨ 383 < index then e.refuse .range
  else e.ok fun s =>
    s.guide.fields ++ [.num 2 (s.serviceEntries service).length] ++
      (match (s.serviceEntries service)[index]? with
        | some g => g.fields
        | none => [])

/-- READ_GUIDE. -/
def execReadGuide (tag : Word16) (service index : Word16) (s : State) : Answer :=
  command tag 0x45 (fun e => e.readGuide service.toNat index.toNat) s

/-- READ SURVEY (R74). -/
def Ev.readSurvey (e : Ev) (lane index : Nat) : Reply :=
  match laneOf lane with
  | none => e.refuse .range
  | some i =>
    if index = 0 ∨ 16 < index then e.refuse .range
    else if (e.now.surveys[i]).status = .none then e.refuse .noSuch
    else
      match (e.now.surveys[i]).record? index with
      | none => e.refuse .noSuch
      | some r => e.ok fun s => (s.surveys[i]).headerFields ++ r.fields index

/-- READ_SURVEY. -/
def execReadSurvey (tag : Word16) (lane index : Byte) (s : State) : Answer :=
  command tag 0x46 (fun e => e.readSurvey lane.toNat index.toNat) s

/-- READ CLOCK (R134). -/
def Ev.readClock (e : Ev) : Reply := e.ok fun s => s.clock.fields

/-- READ_CLOCK. -/
def execReadClock (tag : Word16) (s : State) : Answer :=
  command tag 0x47 Ev.readClock s

/-- READ PROFILE (R161). -/
def Ev.readProfile (e : Ev) (profile : Nat) : Reply :=
  match profileOf profile with
  | none => e.refuse .range
  | some p => e.ok fun s => (s.profiles[p]).fields

/-- READ_PROFILE. -/
def execReadProfile (tag : Word16) (profile : Byte) (s : State) : Answer :=
  command tag 0x48 (fun e => e.readProfile profile.toNat) s

/-- READ TIMER (R150). -/
def Ev.readTimer (e : Ev) (timer : Nat) : Reply :=
  match timerOf timer with
  | none => e.refuse .range
  | some t => e.ok fun s => (s.timers[t]).fields

/-- READ_TIMER. -/
def execReadTimer (tag : Word16) (timer : Byte) (s : State) : Answer :=
  command tag 0x49 (fun e => e.readTimer timer.toNat) s

end Sys2Proof.Machine
end

