-- ==== Sys2Proof/Decode.lean ====
section
/-!
DEFINITION. Reading and building command packets (R3, R198, sections 11.7 and 11.9). `commandOf` says for
every packet presented on port C which row of spec/opcode_table.json it is: a drop (R3), an UNKNOWN
command (R198), or a command with its parameters. `encodeCommand` is its counterpart, written from the
same tables. spec/opcode_table.json gives no row any bits, so `decodeTableWord` reads nothing.
-/

namespace Sys2Proof.Machine

/-- `count` components of LOAD SERVICE, each a stream and a type, and the parameters after them. -/
def parseComponents : (count : Nat) → List Byte → Option (List (Word16 × Byte) × List Byte)
  | 0, rest => some ([], rest)
  | n + 1, streamH :: streamL :: type :: rest =>
    (parseComponents n rest).map fun r => ((word16 streamH streamL, type) :: r.1, r.2)
  | _ + 1, _ => none

/-- `count` service numbers of SURVEY and the parameters after them. -/
def parseServices : (count : Nat) → List Byte → Option (List Word16 × List Byte)
  | 0, rest => some ([], rest)
  | n + 1, high :: low :: rest =>
    (parseServices n rest).map fun r => (word16 high low :: r.1, r.2)
  | _ + 1, _ => none

/-- The command that a code and its parameters spell (section 11.7); `none` when the code is not listed or
the parameter length differs from the one the table gives. -/
def parseCommand (tag : Word16) (code : Nat) (ps : List Byte) : Option Instr :=
  match code with
  | 0x01 => match ps with
    | [address3, address2, address1, address0] => some (.setUnit tag (word32 address3 address2 address1 address0))
    | _ => none
  | 0x02 => match ps with
    | [minutesH, minutesL] => some (.setZone tag (word16 minutesH minutesL))
    | _ => none
  | 0x03 => match ps with
    | [input, present, multiplexH, multiplexL] => some (.declareInput tag input present (word16 multiplexH multiplexL))
    | _ => none
  | 0x04 => match ps with
    | serviceH :: serviceL :: multiplexH :: multiplexL :: count :: rest =>
      match parseComponents count.toNat rest with
      | some (components, [keyPresent, keyH, keyL, baseH, baseL]) =>
        some (.loadService tag (word16 serviceH serviceL) (word16 multiplexH multiplexL) components
          keyPresent (word16 keyH keyL) (word16 baseH baseL))
      | _ => none
    | _ => none
  | 0x05 => match ps with
    | [serviceH, serviceL] => some (.dropService tag (word16 serviceH serviceL))
    | _ => none
  | 0x06 => match ps with
    | [input, streamH, streamL, kind] => some (.addRoute tag input (word16 streamH streamL) kind)
    | _ => none
  | 0x07 => match ps with
    | [input, streamH, streamL] => some (.dropRoute tag input (word16 streamH streamL))
    | _ => none
  | 0x08 => match ps with
    | [profile, pinH, pinL, purchase, ceiling, policy, windowStartH, windowStartL, windowEndH, windowEndL, budgetH, budgetL] => some (.loadProfile tag profile (word16 pinH pinL) purchase ceiling policy (word16 windowStartH windowStartL) (word16 windowEndH windowEndL) (word16 budgetH budgetL))
    | _ => none
  | 0x09 => match ps with
    | [timer, weekday, hour, minute, action, display, lane, serviceH, serviceL, durationH, durationL, repeats] => some (.setTimer tag timer weekday hour minute action display lane (word16 serviceH serviceL) (word16 durationH durationL) repeats)
    | _ => none
  | 0x0A => match ps with
    | [timer] => some (.clearTimer tag timer)
    | _ => none
  | 0x0B => match ps with
    | [lane, ceiling, dwell, silence, holdAtEnd] => some (.setLaneOptions tag lane ceiling dwell silence holdAtEnd)
    | _ => none
  | 0x0C => match ps with
    | [depth] => some (.setKeyDepth tag depth)
    | _ => none
  | 0x20 => match ps with
    | [lane, serviceH, serviceL, profile] => some (.tune tag lane (word16 serviceH serviceL) profile)
    | _ => none
  | 0x21 => match ps with
    | [lane] => some (.untune tag lane)
    | _ => none
  | 0x22 => match ps with
    | [lane, hold, blank] => some (.laneControl tag lane hold blank)
    | _ => none
  | 0x23 => match ps with
    | lane :: count :: rest =>
      match parseServices count.toNat rest with
      | some (services, []) => some (.survey tag lane services)
      | _ => none
    | _ => none
  | 0x24 => match ps with
    | [profile, pinH, pinL, serviceH, serviceL, eventH, eventL] => some (.purchase tag profile (word16 pinH pinL) (word16 serviceH serviceL) (word16 eventH eventL))
    | _ => none
  | 0x25 => match ps with
    | [sequenceH, sequenceL] => some (.cancel tag (word16 sequenceH sequenceL))
    | _ => none
  | 0x26 => match ps with
    | [pinH, pinL, scope, target, minutesH, minutesL] => some (.unlock tag (word16 pinH pinL) scope target (word16 minutesH minutesL))
    | _ => none
  | 0x27 => match ps with
    | [display] => some (.pollPrompt tag display)
    | _ => none
  | 0x28 => match ps with
    | [display, kind] => some (.endPrompt tag display kind)
    | _ => none
  | 0x29 => match ps with
    | [display, masked] => some (.maskPrompt tag display masked)
    | _ => none
  | 0x2A => match ps with
    | [display, lowest, autoRotate] => some (.orderPrompt tag display lowest autoRotate)
    | _ => none
  | 0x2B => match ps with
    | [slot] => some (.clearKeys tag slot)
    | _ => none
  | 0x40 => match ps with
    | [lane] => some (.readLane tag lane)
    | _ => none
  | 0x41 => match ps with
    | [serviceH, serviceL] => some (.readService tag (word16 serviceH serviceL))
    | _ => none
  | 0x42 => match ps with
    | [slot] => some (.readSlot tag slot)
    | _ => none
  | 0x43 => match ps with
    | [index] => some (.readGrant tag index)
    | _ => none
  | 0x44 => match ps with
    | [index] => some (.readLog tag index)
    | _ => none
  | 0x45 => match ps with
    | [serviceH, serviceL, indexH, indexL] => some (.readGuide tag (word16 serviceH serviceL) (word16 indexH indexL))
    | _ => none
  | 0x46 => match ps with
    | [lane, index] => some (.readSurvey tag lane index)
    | _ => none
  | 0x47 => if ps.isEmpty then some (.readClock tag) else none
  | 0x48 => match ps with
    | [profile] => some (.readProfile tag profile)
    | _ => none
  | 0x49 => match ps with
    | [timer] => some (.readTimer tag timer)
    | _ => none
  | 0x7F => if ps.isEmpty then some (.restart tag) else none
  | _ => none

/-- The packets that the intake drops on port C (R3). -/
def droppedOnPortC (p : Packet) : Bool :=
  !syncGood p || errorFlag p || streamNumber p != 8180

/-- What the command unit reads from the payload of a packet that passed the intake (R198). -/
def parsePayload (bs : List Byte) : Option Instr :=
  match bs with
  | code :: tagH :: tagL :: length :: rest =>
    if length.toNat ≤ 180 ∧ length.toNat ≤ rest.length then
      parseCommand (word16 tagH tagL) code.toNat (rest.take length.toNat)
    else none
  | _ => none

/-- What a packet presented on port C is (R3, R198). -/
def commandOf (p : Packet) : Instr :=
  if droppedOnPortC p then .portCPacketDrop p
  else (parsePayload (payload p)).getD (.unknownCommand p)

/-- The code, the tag and the parameters of a host command (section 11.7); `none` for the rows that are no
command of that table. -/
def encodeCommand : Instr → Option (Byte × Word16 × List Byte)
  | .setUnit tag address => some (0x01, tag, bytes32 address)
  | .setZone tag minutes => some (0x02, tag, bytes16 minutes)
  | .declareInput tag input present multiplex => some (0x03, tag, [input, present] ++ bytes16 multiplex)
  | .loadService tag service multiplex components keyPresent keyStream baseProduct =>
    some (0x04, tag, bytes16 service ++ bytes16 multiplex ++ [BitVec.ofNat 8 components.length] ++
      components.flatMap (fun c => bytes16 c.1 ++ [c.2]) ++ [keyPresent] ++ bytes16 keyStream ++
      bytes16 baseProduct)
  | .dropService tag service => some (0x05, tag, bytes16 service)
  | .addRoute tag input stream kind => some (0x06, tag, [input] ++ bytes16 stream ++ [kind])
  | .dropRoute tag input stream => some (0x07, tag, [input] ++ bytes16 stream)
  | .loadProfile tag profile pin purchase ceiling policy windowStart windowEnd budget => some (0x08, tag, [profile] ++ bytes16 pin ++ [purchase, ceiling, policy] ++ bytes16 windowStart ++ bytes16 windowEnd ++ bytes16 budget)
  | .setTimer tag timer weekday hour minute action display lane service duration repeats => some (0x09, tag, [timer, weekday, hour, minute, action, display, lane] ++ bytes16 service ++ bytes16 duration ++ [repeats])
  | .clearTimer tag timer => some (0x0A, tag, [timer])
  | .setLaneOptions tag lane ceiling dwell silence holdAtEnd => some (0x0B, tag, [lane, ceiling, dwell, silence, holdAtEnd])
  | .setKeyDepth tag depth => some (0x0C, tag, [depth])
  | .tune tag lane service profile => some (0x20, tag, [lane] ++ bytes16 service ++ [profile])
  | .untune tag lane => some (0x21, tag, [lane])
  | .laneControl tag lane hold blank => some (0x22, tag, [lane, hold, blank])
  | .survey tag lane services =>
    some (0x23, tag, [lane, BitVec.ofNat 8 services.length] ++ services.flatMap bytes16)
  | .purchase tag profile pin service event => some (0x24, tag, [profile] ++ bytes16 pin ++ bytes16 service ++ bytes16 event)
  | .cancel tag sequence => some (0x25, tag, bytes16 sequence)
  | .unlock tag pin scope target minutes => some (0x26, tag, bytes16 pin ++ [scope, target] ++ bytes16 minutes)
  | .pollPrompt tag display => some (0x27, tag, [display])
  | .endPrompt tag display kind => some (0x28, tag, [display, kind])
  | .maskPrompt tag display masked => some (0x29, tag, [display, masked])
  | .orderPrompt tag display lowest autoRotate => some (0x2A, tag, [display, lowest, autoRotate])
  | .clearKeys tag slot => some (0x2B, tag, [slot])
  | .readLane tag lane => some (0x40, tag, [lane])
  | .readService tag service => some (0x41, tag, bytes16 service)
  | .readSlot tag slot => some (0x42, tag, [slot])
  | .readGrant tag index => some (0x43, tag, [index])
  | .readLog tag index => some (0x44, tag, [index])
  | .readGuide tag service index => some (0x45, tag, bytes16 service ++ bytes16 index)
  | .readSurvey tag lane index => some (0x46, tag, [lane, index])
  | .readClock tag => some (0x47, tag, [])
  | .readProfile tag profile => some (0x48, tag, [profile])
  | .readTimer tag timer => some (0x49, tag, [timer])
  | .restart tag => some (0x7F, tag, [])
  | .unknownCommand _ => none
  | .portCPacketDrop _ => none
  | .cablePacket _ _ _ => none
  | .tickEvent => none
  | .stalled _ => none
  | .silenceLimit _ => none
  | .surveyTurnEnd _ => none
  | .secondEvent => none
  | .autoStopped _ => none
  | .lockoutEnded _ => none
  | .periodEnded _ => none
  | .pendingStepDrop => none
  | .expired => none
  | .timerFire _ _ => none
  | .decoderOutputTake _ _ => none
  | .recorderGrant _ => none
  | .returnPortTake _ => none
  | .sendComplete _ => none
  | .noticeMove => none
  | .powerOn => none
  | .resetRelease => none

/-- The command packet of a host command: sync value, start flag and payload presence set, stream 8180
(0x1FF4), and the payload of section 11.9 filled with 0xFF. -/
def packetOfCommand (i : Instr) : Option Packet :=
  (encodeCommand i).map fun c =>
    packetOfBytes ([0x47#8, 0x60#8, 0x1F#8, 0xF4#8] ++
      ([c.1] ++ bytes16 c.2.1 ++ [BitVec.ofNat 8 c.2.2.length] ++ c.2.2))

end Sys2Proof.Machine

namespace Sys2Proof

/-- The command that a table word spells. spec/opcode_table.json gives none of its rows any bits
("fields": [] throughout), so no word spells a command. -/
def decodeTableWord (_nbits _w : Nat) : Option Instr := none

end Sys2Proof
end

