-- ==== Sys2Proof/Machine/Restart.lean ====
section
/-!
DEFINITION. RESTART (R207), the packets of port C that are no command (R3, R198), and power-on and the reset
line (R208).
-/

namespace Sys2Proof.Machine

/-- A lane after RESTART: IDLE, its options kept (R46, R63). -/
def Lane.restarted (l : Lane) : Lane :=
  { Lane.powerOn with
    ceiling := l.ceiling
    dwell := l.dwell
    silenceLimit := l.silenceLimit
    holdAtEnd := l.holdAtEnd }

/-- What RESTART leaves (R207, R18, R46, R63, R75, R94, R196). -/
def State.restarted (s : State) : State :=
  { s with
    map := []
    keySections := .powerOn
    grantSections := .powerOn
    timeSections := .powerOn
    guideSections := .powerOn
    lanes := Vector.ofFn fun i => s.lanes[i].restarted
    surveys := Vector.replicate 6 .powerOn
    slots := Vector.replicate 16 none
    arbiters := Vector.replicate 2 .powerOn
    notices := []
    lastGranted := 3 }

/-- RESTART: OK with a result of length 0 (R207). It raises no notice and works out no gate: every gate is
left in HOLD and every arbiter cleared. -/
def execRestart (tag : Word16) (s : State) : Answer :=
  if s.portCReady then .next (s.restarted.respond tag 0x7F .ok []) else .next s

/-! ### Packets of port C that are no command -/

/-- The tag and the command code that an UNKNOWN response echoes: as received, or 0 when the payload holds
fewer than 4 bytes (R198). -/
def echoOf (bs : List Byte) : Word16 × Byte :=
  match bs with
  | code :: tagH :: tagL :: _ :: _ => (word16 tagH tagL, code)
  | _ => (0, 0)

/-- UNKNOWN_COMMAND (R198): the response UNKNOWN, and nothing else changes. A packet that R3 drops, or that is
a command, is no such event (log entry 7). -/
def execUnknownCommand (packet : Packet) (s : State) : Answer :=
  if droppedOnPortC packet || (parsePayload (payload packet)).isSome then .refused .notAnUnknownCommand
  else
    command (echoOf (payload packet)).1 (echoOf (payload packet)).2 (fun e => e.refuse .unknown) s

/-- PORT_C_PACKET_DROP (R3): the packet is dropped without a response. A packet that R3 does not drop is no
such event (log entry 7). -/
def execPortCPacketDrop (packet : Packet) (s : State) : Answer :=
  if droppedOnPortC packet then .next s else .refused .notADroppedPacket

/-! ### Power-on and the reset line -/

/-- POWER_ON (R208): every block at its power-on values, the reset line held and every transfer cut short.
The queue and the count of draws are the model's own and stay. -/
def execPowerOn (s : State) : Answer :=
  .next { State.powerOn with pending := s.pending, draws := s.draws }

/-- RESET_RELEASE (R208): the line is released, and port C raises its ready line. -/
def execResetRelease (s : State) : Answer := .next { s with resetHeld := false }

end Sys2Proof.Machine
end

