-- ==== Sys2Proof/Machine/Setup.lean ====
section
/-!
DEFINITION. The commands that set the part up, codes 0x01 to 0x0C: the unit address (R206), the zone (R128), the
input declarations (R4, R37, R38, R73), the service table (R20, R21), host routes (R9, R10), profiles
(R160), timers (R149, R150), lane options (R39, R40) and the vote depth (R81).
-/

namespace Sys2Proof.Machine

/-! ### SET UNIT -/

/-- SET UNIT (R206). -/
def Ev.setUnit (e : Ev) (address : Word32) : Reply :=
  if e.now.unitAddress.isSome then e.refuse .refused
  else (e.on fun s => { s with unitAddress := some address }).ok fun _ => [.num 4 address.toNat]

/-- SET_UNIT. -/
def execSetUnit (tag : Word16) (address : Word32) (s : State) : Answer :=
  command tag 0x01 (fun e => e.setUnit address) s

/-! ### SET ZONE -/

/-- Whether a number of minutes is a zone offset: −720 to 840 and a multiple of 15 (R128). -/
def isZone (minutes : Int) : Bool := decide (-720 ≤ minutes ∧ minutes ≤ 840 ∧ minutes % 15 = 0)

/-- SET ZONE (R128). -/
def Ev.setZone (e : Ev) (minutes : Int) : Reply :=
  if isZone minutes then
    (e.on fun s => { s with clock := { s.clock with zone := minutes } }).ok fun s => [.int 2 s.clock.zone]
  else e.refuse .range

/-- SET_ZONE. -/
def execSetZone (tag : Word16) (minutes : Word16) (s : State) : Answer :=
  command tag 0x02 (fun e => e.setZone minutes.toInt) s

/-! ### DECLARE INPUT -/

/-- The states in which a lane on an input can be lost (R37). -/
def LaneState.canLose : LaneState → Bool
  | .acquiring => true
  | .stalled => true
  | .passing => true
  | .degraded => true
  | .idle => false
  | .lost => false
  | .surveying => false

/-- Whether a lane's service is not carried by the new declaration of the input that the lane stands on (R37,
R73). -/
def State.uncarried (s : State) (input : Input) (i : Fin 6) : Bool :=
  s.lanes[i].input == some input &&
    (s.laneService? i).map (fun r => r.multiplex) != (s.input input).declared

/-- The loss pass at one lane (R37), or the end of a survey turn (R73). -/
def Ev.lossPass (e : Ev) (input : Input) (i : Fin 6) : Ev :=
  if e.now.uncarried input i then
    if e.now.lanes[i].state.canLose then e.loseLane i
    else if e.now.lanes[i].state = .surveying then e.endTurn i .notCarried
    else e
  else e

/-- A changed declaration: the intake effects of R4, the losses and the ends of survey turns in lane order
(R37, R73), the re-acquisitions (R38), and then the next turns of the surveys concerned (R73). R73 gives lane order
for the ends of the turns alone; that the next turns are taken up in lane order too is THE MODEL'S CHOICE (log
entry 31). -/
def Ev.redeclare (e : Ev) (input : Input) (multiplex : Option Nat) : Ev :=
  let e := (e.on fun s => s.modInput input fun r => { r with declared := multiplex }).resetContinuity input .input
  let turnsEnded := allLanes.filter fun i =>
    e.now.uncarried input i && e.now.lanes[i].state == .surveying
  let e := allLanes.foldl (fun e i => e.lossPass input i) e
  let e := allLanes.foldl Ev.reacquire e
  turnsEnded.foldl (fun e i => e.takeUpFrom i (e.now.nextPosition i)) e

/-- DECLARE INPUT (R4, R210). -/
def Ev.declareInput (e : Ev) (input present multiplex : Nat) : Reply :=
  match inputOf input with
  | none => e.refuse .range
  | some i =>
    if 1 < present ∨ (present = 1 ∧ multiplex = 0) then e.refuse .range
    else
      let value := if present = 1 then some multiplex else none
      if (e.now.input i).declared = value then e.ok else (e.keepingRetaken fun e => e.redeclare i value).ok

/-- DECLARE_INPUT. -/
def execDeclareInput (tag : Word16) (input present : Byte) (multiplex : Word16) (s : State) : Answer :=
  command tag 0x03 (fun e => e.declareInput input.toNat present.toNat multiplex.toNat) s

/-! ### LOAD SERVICE and DROP SERVICE -/

/-- A component type byte: 0 VIDEO, 1 AUDIO, 2 DATA, and no other (R209, R210). -/
def componentTypeOf (b : Byte) : Option ComponentType :=
  if b = 0#8 then some .video else if b = 1#8 then some .audio else if b = 2#8 then some .data else none

/-- A component as loaded, `none` when its stream number or type is out of range (R20 check 1). -/
def componentOf (c : Word16 × Byte) : Option Component :=
  if c.1.toNat ≤ 8190 then (componentTypeOf c.2).map fun t => ⟨c.1.toNat, t⟩ else none

/-- Whether LOAD SERVICE fails check (1) of R20. -/
def loadOutOfRange (service multiplex : Nat) (components : List (Word16 × Byte)) (keyPresent keyStream : Nat) :
    Bool :=
  decide (service = 0 ∨ multiplex = 0 ∨ components.length = 0 ∨ 6 < components.length ∨ 1 < keyPresent ∨
    (keyPresent = 1 ∧ 8190 < keyStream)) ||
  !components.all (fun c => (componentOf c).isSome) ||
  !decide ((components.map fun c => c.1).Nodup)

/-- A service record stored, in the place of an earlier one of its number (R20). -/
def storeService (r : Service) (table : List Service) : List Service :=
  if table.any fun q => q.number == r.number then
    table.map fun q => if q.number = r.number then r else q
  else table ++ [r]

/-- LOAD SERVICE (R20). -/
def Ev.loadService (e : Ev) (service multiplex : Nat) (components : List (Word16 × Byte))
    (keyPresent keyStream baseProduct : Nat) : Reply :=
  if loadOutOfRange service multiplex components keyPresent keyStream then e.refuse .range
  else if (e.now.service? service).isSome && e.now.serviceInUse service then e.refuse .inUse
  else if (e.now.service? service).isNone && decide (64 ≤ e.now.services.length) then e.refuse .full
  else
    let record : Service :=
      { number := service
        multiplex := multiplex
        components := components.filterMap componentOf
        keyStream := if keyPresent = 1 then some keyStream else none
        baseProduct := baseProduct }
    (e.on fun s => { s with services := storeService record s.services }).ok

/-- LOAD_SERVICE. -/
def execLoadService (tag : Word16) (service multiplex : Word16) (components : List (Word16 × Byte))
    (keyPresent : Byte) (keyStream baseProduct : Word16) (s : State) : Answer :=
  command tag 0x04 (fun e => e.loadService service.toNat multiplex.toNat components keyPresent.toNat
    keyStream.toNat baseProduct.toNat) s

/-- DROP SERVICE (R21). -/
def Ev.dropService (e : Ev) (service : Nat) : Reply :=
  if (e.now.service? service).isNone then e.refuse .noSuch
  else if e.now.serviceInUse service then e.refuse .inUse
  else (e.on fun s => { s with services := s.services.filter fun r => r.number != service }).ok

/-- DROP_SERVICE. -/
def execDropService (tag : Word16) (service : Word16) (s : State) : Answer :=
  command tag 0x05 (fun e => e.dropService service.toNat) s

/-! ### ADD ROUTE and DROP ROUTE -/

/-- The route kinds of ADD ROUTE: 2 GRANT, 3 TIME, 4 GUIDE (R9, R209). -/
def routeOf (n : Nat) : Option SectionKind :=
  if n = 2 then some .grant else if n = 3 then some .time else if n = 4 then some .guide else none

/-- ADD ROUTE (R9). -/
def Ev.addRoute (e : Ev) (input stream kind : Nat) : Reply :=
  match inputOf input, routeOf kind with
  | some i, some k =>
    if 8190 < stream then e.refuse .range
    else
      match e.now.entry? i stream with
      | some en => if en.route? = some k then e.refuse .already else e.refuse .conflict
      | none =>
        if 96 ≤ e.now.map.length then e.refuse .full
        else (e.on fun s => { s with map := s.map ++ [newEntry i stream (.message k .idle)] }).ok
  | _, _ => e.refuse .range

/-- ADD_ROUTE. -/
def execAddRoute (tag : Word16) (input : Byte) (stream : Word16) (kind : Byte) (s : State) : Answer :=
  command tag 0x06 (fun e => e.addRoute input.toNat stream.toNat kind.toNat) s

/-- DROP ROUTE (R10). -/
def Ev.dropRoute (e : Ev) (input stream : Nat) : Reply :=
  match inputOf input with
  | none => e.refuse .range
  | some i =>
    if 8190 < stream then e.refuse .range
    else
      match (e.now.entry? i stream).bind MapEntry.route? with
      | none => e.refuse .noSuch
      | some .key => e.refuse .inUse
      | some _ => (e.on fun s => { s with map := s.map.filter fun en => !en.isFor i stream }).ok

/-- DROP_ROUTE. -/
def execDropRoute (tag : Word16) (input : Byte) (stream : Word16) (s : State) : Answer :=
  command tag 0x07 (fun e => e.dropRoute input.toNat stream.toNat) s

/-! ### LOAD PROFILE -/

/-- Whether LOAD PROFILE carries a setting out of its range (R160). -/
def settingsOutOfRange (pin purchase ceiling policy windowStart windowEnd budget : Nat) : Bool :=
  decide ((9999 < pin ∧ pin ≠ 0xFFFF) ∨ 1 < purchase ∨ 15 < ceiling ∨ 1 < policy ∨ 1439 < windowStart ∨
    1439 < windowEnd ∨ 1440 < budget)

/-- The seven settings of a profile stored (R160). -/
def Profile.load (p : Profile) (pin purchase ceiling policy windowStart windowEnd budget : Nat) : Profile :=
  { p with
    pin := if pin = 0xFFFF then none else some pin
    purchaseAllowed := purchase == 1
    ceiling := ceiling
    unrated := if policy = 1 then .block else .allow
    windowStart := windowStart
    windowEnd := windowEnd
    budget := budget }

/-- LOAD PROFILE (R160). -/
def Ev.loadProfile (e : Ev) (profile pin purchase ceiling policy windowStart windowEnd budget : Nat) : Reply :=
  match profileOf profile with
  | none => e.refuse .range
  | some p =>
    if settingsOutOfRange pin purchase ceiling policy windowStart windowEnd budget then e.refuse .range
    else
      (e.on fun s => (s.modProfile p fun r =>
        r.load pin purchase ceiling policy windowStart windowEnd budget).evaluateProfile p).ok

/-- LOAD_PROFILE. -/
def execLoadProfile (tag : Word16) (profile : Byte) (pin : Word16) (purchase ceiling policy : Byte)
    (windowStart windowEnd budget : Word16) (s : State) : Answer :=
  command tag 0x08 (fun e => e.loadProfile profile.toNat pin.toNat purchase.toNat ceiling.toNat policy.toNat
    windowStart.toNat windowEnd.toNat budget.toNat) s

/-! ### SET TIMER and CLEAR TIMER -/

/-- A weekday, hour or minute of a timer: ANY is 255 (R209). -/
def anyOr (n : Nat) : Option Nat := if n = 255 then none else some n

/-- Whether SET TIMER carries a value that R149 refuses. -/
def timerOutOfRange (weekday hour minute action display lane service duration repeats : Nat) : Bool :=
  decide ((6 < weekday ∧ weekday ≠ 255) ∨ (23 < hour ∧ hour ≠ 255) ∨ (59 < minute ∧ minute ≠ 255) ∨ 1 < action ∨
    (action = 0 ∧ 1 < display) ∨
    (action = 1 ∧ (lane < 2 ∨ 5 < lane ∨ duration = 0 ∨ 720 < duration)) ∨ service = 0 ∨ 1 < repeats)

/-- SET TIMER (R149). -/
def Ev.setTimer (e : Ev) (timer weekday hour minute action display lane service duration repeats : Nat) :
    Reply :=
  match timerOf timer with
  | none => e.refuse .range
  | some t =>
    if timerOutOfRange weekday hour minute action display lane service duration repeats then e.refuse .range
    else
      (e.on fun s => s.modTimer t fun _ =>
        { isSet := true
          weekday := anyOr weekday
          hour := anyOr hour
          minute := anyOr minute
          action := if action = 1 then .record else .remind
          display := display
          lane := lane
          service := service
          duration := duration
          repeats := repeats == 1
          lastFired := none
          lastOutcome := none
          lastCause := none }).ok

/-- SET_TIMER. -/
def execSetTimer (tag : Word16) (timer weekday hour minute action display lane : Byte)
    (service duration : Word16) (repeats : Byte) (s : State) : Answer :=
  command tag 0x09 (fun e => e.setTimer timer.toNat weekday.toNat hour.toNat minute.toNat action.toNat
    display.toNat lane.toNat service.toNat duration.toNat repeats.toNat) s

/-- CLEAR TIMER (R150). -/
def Ev.clearTimer (e : Ev) (timer : Nat) : Reply :=
  match timerOf timer with
  | none => e.refuse .range
  | some t =>
    if e.now.timers[t].isSet then (e.on fun s => s.modTimer t fun r => { r with isSet := false }).ok
    else e.refuse .noSuch

/-- CLEAR_TIMER. -/
def execClearTimer (tag : Word16) (timer : Byte) (s : State) : Answer :=
  command tag 0x0A (fun e => e.clearTimer timer.toNat) s

/-! ### SET LANE OPTIONS and SET KEY DEPTH -/

/-- The options of a lane stored, with their effects on a running lane (R39, R40); the Bool says whether a
LANE notice is raised. -/
def Lane.setOptions (l : Lane) (ceiling dwell silence : Nat) (hold : Bool) : Lane × Bool :=
  let l := { l with
    ceiling := ceiling
    dwell := dwell
    silenceLimit := silence
    holdAtEnd := hold
    health := min l.health ceiling }
  if l.state = .degraded ∧ l.health = l.ceiling then (l.recover, true) else (l, false)

/-- The lock tick of a surveying lane whose counter a lowered ceiling meets (R69). -/
def State.lockAtOptions (s : State) (i : Fin 6) : State :=
  if s.lanes[i].state = .surveying then s.modSurvey i fun t => t.modCurrent fun r => r.lock s.lanes[i] else s

/-- A health ceiling as it is stored: 1 to 31 (R39). -/
def clampCeiling (n : Nat) : Nat := if n = 0 then 1 else min n 31

/-- SET LANE OPTIONS (R39, R40). -/
def Ev.setLaneOptions (e : Ev) (lane ceiling dwell silence hold : Nat) : Reply :=
  match laneOf lane with
  | none => e.refuse .range
  | some i =>
    if 1 < hold then e.refuse .range
    else
      ((e.lane i fun l => l.setOptions (clampCeiling ceiling) (max dwell 1) (max silence 1) (hold == 1)).on
        fun s => s.lockAtOptions i).ok fun s =>
          [.num 1 s.lanes[i].ceiling, .num 1 s.lanes[i].dwell, .num 1 s.lanes[i].silenceLimit,
            flag s.lanes[i].holdAtEnd]

/-- SET_LANE_OPTIONS. -/
def execSetLaneOptions (tag : Word16) (lane ceiling dwell silence holdAtEnd : Byte) (s : State) : Answer :=
  command tag 0x0B (fun e => e.setLaneOptions lane.toNat ceiling.toNat dwell.toNat silence.toNat
    holdAtEnd.toNat) s

/-- SET KEY DEPTH (R81). -/
def Ev.setKeyDepth (e : Ev) (depth : Nat) : Reply :=
  (e.on fun s => { s with voteDepth := clampDepth depth }).ok fun s => [.num 1 s.voteDepth]

/-- SET_KEY_DEPTH. -/
def execSetKeyDepth (tag : Word16) (depth : Byte) (s : State) : Answer :=
  command tag 0x0C (fun e => e.setKeyDepth depth.toNat) s

end Sys2Proof.Machine
end

