-- ==== Sys2Proof/Machine/Dispatch.lean ====
section
/-! DEFINITION. The one match from commands and events to their meanings, one arm for each row of
spec/opcode_table.json. -/

namespace Sys2Proof.Machine

/-- The effect of a command or an event on everything but the queue. -/
def exec (i : Instr) (s : State) : Host.Outcome State Fault Refusal :=
  match i with
  | .setUnit tag address => Sys2Proof.Machine.execSetUnit tag address s
  | .setZone tag minutes => Sys2Proof.Machine.execSetZone tag minutes s
  | .declareInput tag input present multiplex => Sys2Proof.Machine.execDeclareInput tag input present multiplex s
  | .loadService tag service multiplex components keyPresent keyStream baseProduct => Sys2Proof.Machine.execLoadService tag service multiplex components keyPresent keyStream baseProduct s
  | .dropService tag service => Sys2Proof.Machine.execDropService tag service s
  | .addRoute tag input stream kind => Sys2Proof.Machine.execAddRoute tag input stream kind s
  | .dropRoute tag input stream => Sys2Proof.Machine.execDropRoute tag input stream s
  | .loadProfile tag profile pin purchase ceiling policy windowStart windowEnd budget => Sys2Proof.Machine.execLoadProfile tag profile pin purchase ceiling policy windowStart windowEnd budget s
  | .setTimer tag timer weekday hour minute action display lane service duration repeats => Sys2Proof.Machine.execSetTimer tag timer weekday hour minute action display lane service duration repeats s
  | .clearTimer tag timer => Sys2Proof.Machine.execClearTimer tag timer s
  | .setLaneOptions tag lane ceiling dwell silence holdAtEnd => Sys2Proof.Machine.execSetLaneOptions tag lane ceiling dwell silence holdAtEnd s
  | .setKeyDepth tag depth => Sys2Proof.Machine.execSetKeyDepth tag depth s
  | .tune tag lane service profile => Sys2Proof.Machine.execTune tag lane service profile s
  | .untune tag lane => Sys2Proof.Machine.execUntune tag lane s
  | .laneControl tag lane hold blank => Sys2Proof.Machine.execLaneControl tag lane hold blank s
  | .survey tag lane services => Sys2Proof.Machine.execSurvey tag lane services s
  | .purchase tag profile pin service event => Sys2Proof.Machine.execPurchase tag profile pin service event s
  | .cancel tag sequence => Sys2Proof.Machine.execCancel tag sequence s
  | .unlock tag pin scope target minutes => Sys2Proof.Machine.execUnlock tag pin scope target minutes s
  | .pollPrompt tag display => Sys2Proof.Machine.execPollPrompt tag display s
  | .endPrompt tag display kind => Sys2Proof.Machine.execEndPrompt tag display kind s
  | .maskPrompt tag display masked => Sys2Proof.Machine.execMaskPrompt tag display masked s
  | .orderPrompt tag display lowest autoRotate => Sys2Proof.Machine.execOrderPrompt tag display lowest autoRotate s
  | .clearKeys tag slot => Sys2Proof.Machine.execClearKeys tag slot s
  | .readLane tag lane => Sys2Proof.Machine.execReadLane tag lane s
  | .readService tag service => Sys2Proof.Machine.execReadService tag service s
  | .readSlot tag slot => Sys2Proof.Machine.execReadSlot tag slot s
  | .readGrant tag index => Sys2Proof.Machine.execReadGrant tag index s
  | .readLog tag index => Sys2Proof.Machine.execReadLog tag index s
  | .readGuide tag service index => Sys2Proof.Machine.execReadGuide tag service index s
  | .readSurvey tag lane index => Sys2Proof.Machine.execReadSurvey tag lane index s
  | .readClock tag => Sys2Proof.Machine.execReadClock tag s
  | .readProfile tag profile => Sys2Proof.Machine.execReadProfile tag profile s
  | .readTimer tag timer => Sys2Proof.Machine.execReadTimer tag timer s
  | .restart tag => Sys2Proof.Machine.execRestart tag s
  | .unknownCommand packet => Sys2Proof.Machine.execUnknownCommand packet s
  | .portCPacketDrop packet => Sys2Proof.Machine.execPortCPacketDrop packet s
  | .cablePacket input errorLine packet => Sys2Proof.Machine.execCablePacket input errorLine packet s
  | .tickEvent => Sys2Proof.Machine.execTickEvent s
  | .stalled lane => Sys2Proof.Machine.execStalled lane s
  | .silenceLimit lane => Sys2Proof.Machine.execSilenceLimit lane s
  | .surveyTurnEnd lane => Sys2Proof.Machine.execSurveyTurnEnd lane s
  | .secondEvent => Sys2Proof.Machine.execSecondEvent s
  | .autoStopped lane => Sys2Proof.Machine.execAutoStopped lane s
  | .lockoutEnded profile => Sys2Proof.Machine.execLockoutEnded profile s
  | .periodEnded profile => Sys2Proof.Machine.execPeriodEnded profile s
  | .pendingStepDrop => Sys2Proof.Machine.execPendingStepDrop s
  | .expired => Sys2Proof.Machine.execExpired s
  | .timerFire timer index => Sys2Proof.Machine.execTimerFire timer index s
  | .decoderOutputTake display ready => Sys2Proof.Machine.execDecoderOutputTake display ready s
  | .recorderGrant ready => Sys2Proof.Machine.execRecorderGrant ready s
  | .returnPortTake ready => Sys2Proof.Machine.execReturnPortTake ready s
  | .sendComplete port => Sys2Proof.Machine.execSendComplete port s
  | .noticeMove => Sys2Proof.Machine.execNoticeMove s
  | .powerOn => Sys2Proof.Machine.execPowerOn s
  | .resetRelease => Sys2Proof.Machine.execResetRelease s

end Sys2Proof.Machine
end

