-- ==== Sys2Proof/Safety.lean ====
section
/-!
DEFINITION. What the manual says holds of the part at all times, as properties of a state: the gates (R48),
the credit (R107, R108), the in-service stacks (R187), the pending list and the return queue (R203, R201), the
coverage of installed keys (R90), the tables (R5, R19, R76, R95, R137) and the ranges of the counts; and the terms in
which the statements speak of a lane's entries and slots, of a packet at a lane, and of a whole section.
-/

namespace Sys2Proof.Machine

/-- Every gate stands in the state that R48 works out from its lane state, its reason set and itself. -/
def State.GatesSound (s : State) : Prop := ∀ i : Fin 6, (s.lanes[i]).gateTarget = (s.lanes[i]).gate

/-- A gate is PASS only while its lane is PASSING with an empty reason set (R48). -/
def State.PassIsClean (s : State) : Prop :=
  ∀ i : Fin 6, (s.lanes[i]).gate = .pass → (s.lanes[i]).state = .passing ∧ (s.lanes[i]).reasons = {}

/-- Spent equals the sum of prices of the ACTIVE records, spent and the ceiling are numbers from 0 to 65535
(R108), the log holds at most 32 records, and its sequences run up to the next sequence (R107). -/
def Entitlement.CreditSound (n : Entitlement) : Prop :=
  n.spent = creditOf n.log ∧ n.spent ≤ 65535 ∧ n.ceiling ≤ 65535 ∧ n.log.length ≤ 32 ∧
    n.nextSequence < 65536 ∧
    n.log.map (fun r => r.sequence) =
      (List.range n.log.length).map fun k => (n.nextSequence + 65536 - n.log.length + k) % 65536

/-- The kinds in the in-service stack are exactly the IN_SERVICE kinds, and read from bottom to top they stand
in strictly rising priority (R187): a lower rank is a higher priority (R186). -/
def Arbiter.StackSound (a : Arbiter) : Prop :=
  (∀ k : Fin 8, k ∈ a.stack ↔ (a.entries[k]).state = .inService) ∧
    a.stack.Pairwise fun lower upper => rank a.lowest upper < rank a.lowest lower

/-- Both in-service stacks are sound (R187). -/
def State.StacksSound (s : State) : Prop := ∀ d : Fin 2, (s.arbiters[d]).StackSound

/-- The pending list holds no notice twice (R203), and the return queue holds at most 16 packets (R201). -/
def State.QueuesSound (s : State) : Prop := s.notices.Nodup ∧ s.returnQueue.length ≤ 16

/-- Every installed key's product is covered at N as it stands (R80, R90, R99). -/
def State.KeysCovered (s : State) : Prop :=
  ∀ (k : Fin 16) (slot : KeySlot), s.slots[k] = some slot → ∀ (h : Phase) (key : Key),
    (slot.half h).key = some key → s.covered key.product s.clock.now = true

/-- The stream map holds no two entries for one pair, no COMPONENT entry without a destination lane or with a
lane twice, and at most 96 entries (R5). -/
def State.MapSound (s : State) : Prop :=
  (s.map.map fun en => (en.input, en.stream)).Nodup ∧
    (∀ en ∈ s.map, ∀ destinations slot, en.role = .component destinations slot →
      destinations ≠ [] ∧ destinations.Nodup) ∧
    s.map.length ≤ 96

/-- No two allocated slots serve one input and key stream (R76). -/
def State.SlotsDistinct (s : State) : Prop :=
  ∀ (j k : Fin 16) (a b : KeySlot), s.slots[j] = some a → s.slots[k] = some b →
    a.input = b.input → a.stream = b.stream → j = k

/-- The service table holds at most 64 records, no two of one number (R19), and the grant table at most 48
grants, one per product and source (R95). -/
def State.TablesSound (s : State) : Prop :=
  s.services.length ≤ 64 ∧ (s.services.map fun r => r.number).Nodup ∧
    s.entitlement.grants.length ≤ 48 ∧ (s.entitlement.grants.map fun g => (g.product, g.source)).Nodup

/-- The guide table holds at most 384 entries, ordered by service and start, and the entries of one service
do not overlap (R137). -/
def Guide.Sound (g : Guide) : Prop :=
  g.entries.length ≤ 384 ∧
    g.entries.Pairwise fun a b => a.service < b.service ∨ (a.service = b.service ∧ a.stop ≤ b.start)

/-- The ranges of a lane's options and counts (section 2.3, R32). -/
def Lane.InRange (l : Lane) : Prop :=
  (1 ≤ l.ceiling ∧ l.ceiling ≤ 31) ∧ (1 ≤ l.dwell ∧ l.dwell ≤ 255) ∧
    (1 ≤ l.silenceLimit ∧ l.silenceLimit ≤ 255) ∧ l.health ≤ l.ceiling ∧ l.ticks ≤ 65535 ∧
    l.silence ≤ 255 ∧ l.errors ≤ 65535 ∧ l.overruns ≤ 65535

/-- The ranges of a profile's counters (section 9.1). -/
def Profile.InRange (p : Profile) : Prop :=
  p.failures ≤ 2 ∧ p.lockout ≤ 900 ∧ p.period ≤ 14400 ∧ p.used ≤ 86400 ∧ p.extension ≤ 86400

/-- Every lane and every profile is in range, the vote depth is one of 1, 3, 5, 7, 9, 11, 13 and 15 (R81), the
tick phase runs from 0 to 9 (R121), and N is a network second. -/
def State.InRange (s : State) : Prop :=
  (∀ i : Fin 6, (s.lanes[i]).InRange) ∧ (∀ p : Fin 4, (s.profiles[p]).InRange) ∧
    (s.voteDepth % 2 = 1 ∧ s.voteDepth ≤ 15) ∧ s.tickPhase ≤ 9 ∧ s.clock.now ≤ maxTime

/-! ### Map entries and slots that a lane holds (R5, R23, R76) -/

/-- A lane stands in the destination set of an entry of a pair. -/
def State.Member (s : State) (i : Fin 6) (n : Input) (stream : Nat) : Prop :=
  ∃ en ∈ s.map, en.input = n ∧ en.stream = stream ∧
    ∃ destinations slot, en.role = .component destinations slot ∧ i ∈ destinations

/-- A lane holds a reference to the slot of a key stream. -/
def State.UsesSlot (s : State) (i : Fin 6) (n : Input) (stream : Nat) : Prop :=
  ∃ (k : Fin 16) (slot : KeySlot), s.slots[k] = some slot ∧ slot.input = n ∧ slot.stream = stream ∧ i ∈ slot.users

/-- What the leaving or installing of lane `i` takes from no other: the memberships and references of the other
lanes, the host's routes, and the contents of a slot that another lane uses (R7, R8, R77, R78). -/
def State.OthersStay (s u : State) (i : Fin 6) : Prop :=
  (∀ (j : Fin 6) (n : Input) (x : Nat), j ≠ i →
    (u.Member j n x ↔ s.Member j n x) ∧ (u.UsesSlot j n x ↔ s.UsesSlot j n x)) ∧
  (∀ en : MapEntry, en.route? ≠ none → en.route? ≠ some .key → (en ∈ u.map ↔ en ∈ s.map)) ∧
  (∀ (k : Fin 16) (slot : KeySlot) (j : Fin 6), s.slots[k] = some slot → j ∈ slot.users → j ≠ i →
    ∃ users, u.slots[k] = some { slot with users := users })

/-- Lane `i` has left: it stands in no destination set and uses no slot, and a slot that it alone used is free,
its KEY entry with it (R8, R78). -/
def State.LeftBy (s u : State) (i : Fin 6) : Prop :=
  (∀ (n : Input) (x : Nat), ¬u.Member i n x ∧ ¬u.UsesSlot i n x) ∧ s.OthersStay u i ∧
  ∀ (k : Fin 16) (slot : KeySlot), s.slots[k] = some slot → slot.users = [i] → u.slots[k] = none ∧
    ∀ en ∈ u.map, en.route? = some .key → ¬(en.input = slot.input ∧ en.stream = slot.stream)

/-- Lane `i` has left what it held and service `r` is installed for it on input `n`: it stands in the entries of
the service's components and in no others, and uses the slot of its key stream and no other. An entry that no
other lane held begins without a last count. A slot that serves the key stream already, the lane's own among them,
keeps its number and contents, and its KEY entry its record; where there is none it is the lowest free one, empty (R7,
R23, R25, R77, R78). -/
def State.InstalledFor (s u : State) (i : Fin 6) (n : Input) (r : Service) : Prop :=
  (∀ (m : Input) (x : Nat),
    (u.Member i m x ↔ m = n ∧ ∃ c ∈ r.components, c.stream = x) ∧
    (u.UsesSlot i m x ↔ m = n ∧ r.keyStream = some x)) ∧
  s.OthersStay u i ∧
  (∀ c ∈ r.components, ∀ en, u.entry? n c.stream = some en →
    (∃ destinations slot, en.role = .component destinations slot ∧ u.slotStream slot = r.keyStream) ∧
    ((∀ j, j ≠ i → ¬s.Member j n c.stream) → en.lastCount = none ∧ en.duplicateMark = false)) ∧
  (∀ x, r.keyStream = some x →
    (∃ en, u.entry? n x = some en ∧ en.route? = some .key) ∧
    (∀ (k : Fin 16) (slot : KeySlot), s.slots[k] = some slot → slot.input = n → slot.stream = x →
      (∃ users, u.slots[k] = some { slot with users := users }) ∧
      ∀ en, s.entry? n x = some en → en.route? = some .key → u.entry? n x = some en) ∧
    ((∀ (k : Fin 16) (slot : KeySlot), s.slots[k] = some slot → ¬(slot.input = n ∧ slot.stream = x)) →
      ∃ k : Fin 16, (∀ k' : Fin 16, k' < k → u.slots[k'] ≠ none) ∧ u.slots[k] = some
        { input := n, stream := x, users := [i], phase := none, even := ⟨none, none⟩, odd := ⟨none, none⟩,
          refused := 0, rejected := 0, ignored := 0 }))

/-! ### What one packet of an entry brings to one lane -/

/-- The reports of one packet to one lane, in the order of R12 and R89: an error report, the lead arrival of a lead
packet, a good event, a change of ACCESS, and the packet itself at the gate, which is the release point or not. -/
structure PacketAtLane where
  error : Bool := false
  lead : Option LeadArrival := none
  good : Bool := false
  access : Option Bool := none
  offered : Option Packet := none
  release : Bool := false

/-- A lane after what a packet brings before the gate (R26 to R28, R31 to R33, R68, R69, R86, R87), and whether a
LANE notice is raised. -/
def Lane.beforeGate (l : Lane) (x : PacketAtLane) : Lane × Bool :=
  let reported : Lane × Bool := if x.error then l.errorReport else (l, false)
  let arrived : Lane × Bool := match x.lead with
    | none => (reported.1, false)
    | some a =>
      if reported.1.state = .surveying then ({ reported.1 with silence := 0 }.acquireSteps a, false)
      else reported.1.leadArrival a
  let counted : Lane × Bool := if x.good then arrived.1.goodEvent else (arrived.1, false)
  (match x.access with
    | none => counted.1
    | some a => counted.1.setAccess a, reported.2 || arrived.2 || counted.2)

/-- A lane after a whole packet: the gate is worked out (R49), disposes of the packet (R50, R51, R56), and is worked
out again where that changed the lane. -/
def Lane.receive (l : Lane) (x : PacketAtLane) : Lane × Bool :=
  let early := l.beforeGate x
  let gated := Lane.closeGate l early.1
  match x.offered with
  | none => (gated, early.2)
  | some q => (Lane.closeGate l (gated.offer q x.release).1, early.2 || (gated.offer q x.release).2)

/-- A result record after what a packet brings to its SURVEYING lane (R68, R69). -/
def SurveyRecord.receive (r : SurveyRecord) (l : Lane) (x : PacketAtLane) : SurveyRecord :=
  let after := (l.beforeGate x).1
  { r with
    badEvents := if x.error then raise 255 r.badEvents else r.badEvents
    leadPackets := if x.lead.isSome then raise 65535 r.leadPackets else r.leadPackets
    leadSaturated := r.leadSaturated || (x.lead.isSome && decide (r.leadPackets = 65535))
    scrambledSeen := r.scrambledSeen || x.lead.any fun a => decide (a.phase = .even ∨ a.phase = .odd)
    keyObtained := r.keyObtained || x.lead.any fun a =>
      decide (a.outcome = .accepted ∨ a.outcome = .error) && a.descrambled && a.delivered
    firstEntryTick := if l.step.isSome && after.step.isNone then after.entryTick else r.firstEntryTick
    lockTick := if x.good && decide (after.health = after.ceiling) && r.lockTick.isNone
      then some (min after.ticks 255) else r.lockTick }

/-- Lane `i` is one whose lead component the entry of a pair carries (R26). -/
def State.LeadOf (s : State) (i : Fin 6) (n : Input) (stream : Nat) : Prop :=
  (s.lanes[i]).input = some n ∧ ∃ r c rest, s.laneService? i = some r ∧ r.components = c :: rest ∧ c.stream = stream

/-! ### Sections (R11, R13 to R16) -/

/-- A packet completes a section at a MESSAGE entry: it is CLEAR, and with the bytes held, or by itself when its start
flag is set, it gathers the number of bytes that the length field asks for. `causes` are the discards of a partial
section before it, `bytes` the whole section. -/
def MapEntry.Completes (en : MapEntry) (p : Packet) (causes : List DiscardCause) (bytes : List Byte) : Prop :=
  let outcome := (en.continuity p).1
  wirePhase p = .clear ∧
  ((startFlag p = false ∧ outcome = .accepted ∧ causes = [] ∧
      ∃ route held expected, en.role = .message route (.assembling held expected) ∧
        bytes = held ++ (payload p).take (expected - held.length) ∧ bytes.length = expected) ∨
    (startFlag p = true ∧
      (outcome = .accepted ∧ causes = (if en.isAssembling then [.restarted] else []) ∨
        outcome = .error ∧ causes = (if en.isAssembling then [.continuity] else [])) ∧
      ∃ kind hi lo rest, payload p = kind :: hi :: lo :: rest ∧
        4 ≤ (word16 hi lo).toNat ∧ (word16 hi lo).toNat ≤ 1021 ∧ 3 + (word16 hi lo).toNat ≤ (payload p).length ∧
        bytes = (payload p).take (3 + (word16 hi lo).toNat)))

/-- What a packet leaves at a MESSAGE entry of a pair: the input in sync, the continuity record moved on, the assembly
given, and each discard counted in the section record of the route with its cause and pair (R1, R11, R15). -/
def State.sectionLeft (s : State) (n : Input) (en : MapEntry) (route : SectionKind) (p : Packet)
    (causes : List DiscardCause) (left : Assembly) : State :=
  let moved := (s.modInput n fun r => { r with sync := .inSync }).modEntry n (streamNumber p) fun q =>
    { q with role := .message route left, lastCount := (en.continuity p).2.1,
             duplicateMark := (en.continuity p).2.2 }
  moved.modSectionRecord route fun r =>
    if causes = [] then r
    else { r with discarded := causes.foldl (fun k _ => raise 65535 k) r.discarded
                  lastCause := causes.getLast?
                  lastPair := some (n, streamNumber p) }

/-- The pending list with a notice appended, if a condition holds and it is not there already (R203). -/
def State.noteIf (s : State) (c : Bool) (n : Notice) : State :=
  if c = true ∧ n ∉ s.notices then { s with notices := s.notices ++ [n] } else s

/-- The bytes that spell a headend grant operation (section 6.2, section 11.9). -/
def GrantOp.SpelledBy : GrantOp → List Byte → Prop
  | .add product start stop, bs => 1 ≤ product ∧ product < 2 ^ 16 ∧ start < 2 ^ 32 ∧ ∃ ends : List Byte,
      bs = 1#8 :: (bytesOfNat 2 product ++ bytesOfNat 4 start ++ ends) ∧ ends.length = 5 ∧
      match stop with
      | some e => e < 2 ^ 32 ∧ ends = 1#8 :: bytesOfNat 4 e
      | none => ends.head? = some 0#8
  | .remove product, bs => 1 ≤ product ∧ product < 2 ^ 16 ∧ bs = 2#8 :: bytesOfNat 2 product
  | .ceiling value, bs => value < 2 ^ 16 ∧ bs = 3#8 :: bytesOfNat 2 value
  | .collect sequence, bs => sequence < 2 ^ 16 ∧ bs = 4#8 :: bytesOfNat 2 sequence

/-! ### The copy of a lane at a change of its programme (R55, R144, R145) -/

/-- A lane with the copy that it has to have, after the boundary that this is if event id, rating or product change:
the programme override cleared, the parental reasons of an evaluated lane worked out for a profile, and hold-at-end;
and whether hold-at-end raises a LANE notice. -/
def State.laneRecomputed (s : State) (i : Fin 6) : Lane × Bool :=
  let l := s.lanes[i]
  let new := l.service.bind s.currentEntry
  let key := Option.map fun g : GuideEntry => (g.event, g.rating, g.product)
  if l.state = .idle ∨ l.state = .surveying then (l, false)
  else if key new = key l.copy then ({ l with copy := new }, false)
  else
    let cleared := { l with copy := new, override := none }
    let judged := match l.profile with
      | none => cleared
      | some p =>
        if i.val < 2 ∧ l.state ≠ .lost then
          { cleared with reasons := { l.reasons with
              rating := cleared.ratingHolds s.profiles[p]
              window := (s.profiles[p]).windowHolds s.clock
              budget := (s.profiles[p]).reached } }
        else cleared
    if l.holdAtEnd ∧ l.copy ≠ none then
      ({ judged with reasons := { judged.reasons with hostHold := true }, lastChange := some .heldAtEnd }, true)
    else (judged, false)

end Sys2Proof.Machine
end

