-- ==== Sys2Proof/WellFormed.lean ====
section
/-!
DEFINITION. Which terms of `Instr` the outside can deliver. The types bound most operands; what is left is
that a LOAD SERVICE or SURVEY fits a parameter length of 180 (R198), that a dropped or UNKNOWN packet is one
that R3 or R198 makes so, and that a minute index is one that local time can reach (R129).
-/

namespace Sys2Proof

/-- The largest minute index (R129, step 8). -/
def maxMinuteIndex : Nat := 71582788

/-- Whether a command or event is one that the outside can deliver. -/
def Instr.wellFormed : Instr → Bool
  | .loadService _ _ _ components _ _ _ => 10 + 3 * components.length ≤ 180
  | .survey _ _ services => 2 + 2 * services.length ≤ 180
  | .unknownCommand p => !Machine.droppedOnPortC p && (Machine.parsePayload (Machine.payload p)).isNone
  | .portCPacketDrop p => Machine.droppedOnPortC p
  | .timerFire _ index => index.toNat ≤ maxMinuteIndex
  | .setUnit _ _ => true
  | .setZone _ _ => true
  | .declareInput _ _ _ _ => true
  | .dropService _ _ => true
  | .addRoute _ _ _ _ => true
  | .dropRoute _ _ _ => true
  | .loadProfile _ _ _ _ _ _ _ _ _ => true
  | .setTimer _ _ _ _ _ _ _ _ _ _ _ => true
  | .clearTimer _ _ => true
  | .setLaneOptions _ _ _ _ _ _ => true
  | .setKeyDepth _ _ => true
  | .tune _ _ _ _ => true
  | .untune _ _ => true
  | .laneControl _ _ _ _ => true
  | .purchase _ _ _ _ _ => true
  | .cancel _ _ => true
  | .unlock _ _ _ _ _ => true
  | .pollPrompt _ _ => true
  | .endPrompt _ _ _ => true
  | .maskPrompt _ _ _ => true
  | .orderPrompt _ _ _ _ => true
  | .clearKeys _ _ => true
  | .readLane _ _ => true
  | .readService _ _ => true
  | .readSlot _ _ => true
  | .readGrant _ _ => true
  | .readLog _ _ => true
  | .readGuide _ _ _ => true
  | .readSurvey _ _ _ => true
  | .readClock _ => true
  | .readProfile _ _ => true
  | .readTimer _ _ => true
  | .restart _ => true
  | .cablePacket _ _ _ => true
  | .tickEvent => true
  | .stalled _ => true
  | .silenceLimit _ => true
  | .surveyTurnEnd _ => true
  | .secondEvent => true
  | .autoStopped _ => true
  | .lockoutEnded _ => true
  | .periodEnded _ => true
  | .pendingStepDrop => true
  | .expired => true
  | .decoderOutputTake _ _ => true
  | .recorderGrant _ => true
  | .returnPortTake _ => true
  | .sendComplete _ => true
  | .noticeMove => true
  | .powerOn => true
  | .resetRelease => true

end Sys2Proof
end

