-- ==== Sys2Proof/Certificates/Slice0/Obligations.lean ====
section
/-!
DEFINITION. The statements for the provers. A command's statement says the answer in full where the command
touches little (`exec … = .next …` of the state it leaves, to which the response is appended); where it
reaches lanes and prompts, it says that there is a state `u` to which the response is appended, what holds of
`u`, and by an equation `u = { s with … }` that every other part of the state is as before.
-/

section

open Sys2Proof Sys2Proof.Machine

/-! ### The machine -/

/-- A step takes the command or event at the front of the queue and runs it with the queue's rest; commands are
taken in the order of delivery (R199). On an empty queue the part idles, which is THE MODEL'S CHOICE (log entry
12). -/
def Obligations.StepRunsTheFrontCommand : Prop :=
  ∀ s : State,
    (∀ (c : Instr) (rest : List Instr), s.pending = c :: rest → step s = exec c { s with pending := rest }) ∧
    (s.pending = [] → step s = .next s)

/-- What the rules state of the part right after reset, the reset line released (R17, R45, R62, R64, R93, R119, R135,
R137, R148, R159, R195 and R208), and that it meets every invariant stated here. The fields of the model's own
(the queue, `secondTaken`, `draws`) and the sampled ready lines have no clause: log entries 6, 8 and 22 name their
values. -/
def Obligations.ResetHoldsTheStatedValues : Prop :=
  let s := State.reset
  (s.inputA = ⟨.inSync, none⟩ ∧ s.inputB = ⟨.inSync, none⟩ ∧ s.map = [] ∧
    (∀ k : SectionKind, s.sectionRecord k = ⟨0, 0, none, none⟩) ∧ s.services = []) ∧
  (∀ i : Fin 6, s.lanes[i] =
    { state := .idle, step := none, service := none, input := none, profile := none, ceiling := 8, dwell := 30,
      silenceLimit := 20, holdAtEnd := false, health := 0, ticks := 0, signalTick := none, keyTick := none,
      entryTick := none, silence := 0, errors := 0, overruns := 0, autoStop := none, override := none,
      copy := none, lastChange := none, lastRefusal := none,
      reasons := ⟨false, false, false, false, false, false, false, false⟩, gate := .hold, buffer := .empty }) ∧
  ((∀ d : Fin 2, s.decoders[d] = none) ∧ s.recorder = none ∧ (recordingLane s.lastGranted).val = 5) ∧
  (∀ i : Fin 6, s.surveys[i] = ⟨.none, none, []⟩) ∧
  ((∀ k : Fin 16, s.slots[k] = none) ∧ s.voteDepth = 3) ∧
  (s.entitlement =
    { grants := [], log := [], nextSequence := 1, spent := 0, ceiling := 0, applied := 0, malformed := 0,
      dropped := 0, lastDropped := none, lastChange := none } ∧ s.unitAddress = none) ∧
  (s.clock =
    { valid := false, now := 0, zone := 0, dstStart := 0, dstEnd := 0, dstDelta := 0, pendingStep := none,
      previousIndex := none, previousDay := none, accepted := 0, malformed := 0, steps := 0, unconfirmed := 0,
      lastChange := none, lastStep := none } ∧ s.tickPhase = 0) ∧
  s.guide = ⟨[], 0, 0, 0, 0, 0, 0, 0⟩ ∧
  (∀ t : Fin 24, s.timers[t] =
    { isSet := false, weekday := some 0, hour := some 0, minute := some 0, action := .remind, display := 0,
      lane := 2, service := 1, duration := 1, repeats := false, lastFired := none, lastOutcome := none,
      lastCause := none }) ∧
  (∀ p : Fin 4, s.profiles[p] =
    { pin := none, purchaseAllowed := false, ceiling := 15, unrated := .allow, windowStart := 0, windowEnd := 0,
      budget := 1440, used := 0, extension := 0, recordedDay := none, failures := 0, lockout := 0, period := 0,
      lastChange := none }) ∧
  (∀ d : Fin 2, (s.arbiters[d]).stack = [] ∧ ((s.arbiters[d]).lowest).val = 7 ∧
    (s.arbiters[d]).autoRotate = false ∧ (s.arbiters[d]).report = ⟨false, false, false, []⟩ ∧
    ∀ k : Fin 8, (s.arbiters[d]).entries[k] = ⟨.absent, false, ⟨none, none, none, none, none, none, none⟩⟩) ∧
  (s.notices = [] ∧ s.returnQueue = [] ∧ s.returnCount = 0 ∧ s.returnPort = none ∧ s.resetHeld = false ∧
    s.portCReady = true) ∧
  (s.entitlement.CreditSound ∧ s.GatesSound ∧ s.StacksSound ∧ s.QueuesSound ∧ s.KeysCovered ∧ s.MapSound ∧
    s.SlotsDistinct ∧ s.TablesSound ∧ s.guide.Sound ∧ s.InRange)

/-- POWER_ON takes every block to its power-on values and holds the reset line; RESET_RELEASE releases the line
and nothing else (R208). That the waiting commands and the count of draws stay is the model's choice (log
entry 14). While the line is held no command is taken, no packet is sent and nothing counts (R208, R17, R121): every
command and event but power-on, the release of the line and the end of a transfer leaves the state as it is. -/
def Obligations.PowerOnAndHeldReset : Prop :=
  (∀ s : State,
    exec .powerOn s =
      .next { State.reset with resetHeld := true, pending := s.pending, draws := s.draws } ∧
    exec .resetRelease s = .next { s with resetHeld := false }) ∧
  ∀ (i : Instr) (s : State), i.wellFormed = true → s.resetHeld = true → i ≠ .powerOn → i ≠ .resetRelease →
    (∀ port, i ≠ .sendComplete port) → exec i s = .next s

/-- Port C's ready line is asserted while the return queue has a free place and the reset line is not held, and
a packet presented while it is dropped is lost whole: it gets no response and changes nothing (R197). A packet with
a bad sync value, a set error flag or a stream other than 8180 is dropped without a response (R3); any other packet
that does not spell a command gets the response UNKNOWN, which echoes its tag and code, or 0 and 0 when the payload
holds fewer than 4 bytes, and changes nothing else (R198). A row delivered with a packet that cannot be its packet is
refused by name, and a command lost at a dropped line is lost with all its effects: both are THE MODEL'S CHOICE (log
entries 7 and 13). -/
def Obligations.PortCTakesOnlyCommands : Prop :=
  (∀ s : State, (s.portCReady = true ↔ s.resetHeld = false ∧ s.returnQueue.length < 16) ∧
    ∀ i : Instr, i.wellFormed = true → ((encodeCommand i).isSome = true ∨ ∃ p, i = .unknownCommand p) →
      s.portCReady = false → exec i s = .next s) ∧
  ∀ (p : Packet) (s : State),
    (droppedOnPortC p = true ↔
      packetByte p 0 ≠ 0x47#8 ∨ (packetByte p 1).getLsbD 7 = true ∨ streamNumber p ≠ 8180) ∧
    (droppedOnPortC p = true → exec (.portCPacketDrop p) s = .next s) ∧
    (droppedOnPortC p = false → parsePayload (payload p) = none → s.portCReady = true →
      ((payload p).length < 4 → exec (.unknownCommand p) s = .next (s.respond 0 0 .unknown [])) ∧
      (∀ (code tagH tagL length : Byte) (rest : List Byte), payload p = code :: tagH :: tagL :: length :: rest →
        exec (.unknownCommand p) s = .next (s.respond (word16 tagH tagL) code .unknown []))) ∧
    (droppedOnPortC p = false → exec (.portCPacketDrop p) s = .refused .notADroppedPacket) ∧
    (droppedOnPortC p = true ∨ (parsePayload (payload p)).isSome = true →
      exec (.unknownCommand p) s = .refused .notAnUnknownCommand)

/-- Each command taken gets one response, with the command's code and tag, placed at the tail of the return
queue at the return count; a refused command's result has length 0 (R199, R200, R202). -/
def Obligations.EveryHostCommandIsAnsweredOnce : Prop :=
  ∀ (i : Instr) (code : Byte) (tag : Word16) (ps : List Byte) (s : State),
    encodeCommand i = some (code, tag, ps) → s.portCReady = true →
    ∃ (t : State) (status : Status) (result : List Byte), exec i s = .next t ∧
      t.returnQueue = s.returnQueue ++ [⟨s.returnCount, .response tag code status result⟩] ∧
      t.returnCount = s.returnCount + 1 ∧ (status ≠ .ok → result = [])

/-- A command packet built from a well-formed host command is read back as that command, with every parameter
at every value its field can carry (R198, sections 11.7 to 11.9). -/
def Obligations.CommandPacketRoundTrip : Prop :=
  ∀ (i : Instr) (p : Packet), i.wellFormed = true → packetOfCommand i = some p → commandOf p = i

/-- Numbers are sent most significant byte first; a field that may be none is sent as all ones where that value
lies outside its range and otherwise with a presence byte, and at its full width when its value is absent
(section 11.8, R209). A packet of the return queue is CLEAR, on stream 8181 with the start flag, its return count as
sequence count, and its payload filled up with 255; a blank order is on stream 8182 without the flag, with count 0 and
the lane number alone (R202, R53). A response holds kind 1, the tag, the code, the status, whose values are 0 to 17, and
the result with its length, a notice kind 2, its kind and subject and the snapshot with its length (R200, R205); a
recorder frame holds 0xA5, the lane granted, whether it is a blank order, 0 and the packet (R60). -/
def Obligations.FieldsPacketsAndFramesAsBytes : Prop :=
  (∀ (draw place width value : Nat) (signed : Int),
    ((Field.num width value).bytes draw place).length = width ∧
    natOfBytes ((Field.num width value).bytes draw place) = value % 256 ^ width ∧
    ((natOfBytes ((Field.int width signed).bytes draw place) : Nat) : Int) = signed % ((256 ^ width : Nat) : Int) ∧
    (Field.ones width none).bytes draw place = List.replicate width 0xFF#8 ∧
    (Field.ones width (some value)).bytes draw place = (Field.num width value).bytes draw place ∧
    (Field.opt width (some value)).bytes draw place = 1#8 :: (Field.num width value).bytes draw place ∧
    ((Field.opt width none).bytes draw place).head? = some 0#8 ∧
    ((Field.opt width none).bytes draw place).length = width + 1) ∧
  (∀ (r : ReturnPacket) (i : Fin 6),
    let p := r.packet
    let q := blankPacket i
    (∀ x ∈ [p, q], packetByte x 0 = 0x47#8 ∧ errorFlag x = false ∧ payloadFlag x = true ∧
      extensionFlag x = false ∧ wirePhase x = .clear) ∧
    startFlag p = true ∧ streamNumber p = 8181 ∧ sequenceCount p = r.count ∧
    startFlag q = false ∧ streamNumber q = 8182 ∧ sequenceCount q = 0 ∧
    (r.body.payload.length ≤ 184 →
      payload p = r.body.payload ++ List.replicate (184 - r.body.payload.length) 0xFF#8) ∧
    payload q = BitVec.ofNat 8 i.val :: List.replicate 183 0xFF#8) ∧
  (∀ (tagH tagL code : Byte) (status : Status) (n : Notice) (bytes : List Byte),
    (ReturnBody.response (word16 tagH tagL) code status bytes).payload =
      [1#8, tagH, tagL, code, BitVec.ofNat 8 status.code, BitVec.ofNat 8 bytes.length] ++ bytes ∧
    (ReturnBody.notice n bytes).payload =
      [2#8, BitVec.ofNat 8 n.kindCode, BitVec.ofNat 8 n.subject, BitVec.ofNat 8 bytes.length] ++ bytes) ∧
  [Status.ok, .unknown, .range, .noSuch, .full, .conflict, .inUse, .busy, .notCarried, .noClock, .badPin, .lockedOut,
    .refused, .notOffered, .tooLate, .already, .noCredit, .logFull].map Status.code = List.range 18 ∧
  ∀ f : RecorderFrame, f.bytes =
    [0xA5#8, BitVec.ofNat 8 (f.lane.val + 2), if f.blank = true then 1#8 else 0#8, 0#8] ++ f.packet.toList

/-! ### What holds at all times -/

/-- Credit spent always equals the sum of prices of the ACTIVE records; the log's length, sequences and ranges
stay (R107, R108). -/
def Obligations.EveryStepKeepsCredit : Prop :=
  ∀ s t : State, s.entitlement.CreditSound → step s = .next t → t.entitlement.CreditSound

/-- Every gate stays in the state that R48 works out from its lane state and reason set (R48, R49). -/
def Obligations.EveryStepKeepsGates : Prop :=
  ∀ s t : State, s.GatesSound → step s = .next t → t.GatesSound

/-- The pending list never holds a notice twice and the return queue never more than 16 packets (R197, R201,
R203, R204). In each prompt arbiter the kinds of the stack stay exactly the IN_SERVICE kinds, in strictly rising
priority from bottom to top (R186, R187, R189). -/
def Obligations.EveryStepKeepsQueuesAndStacks : Prop :=
  (∀ s t : State, s.QueuesSound → step s = .next t → t.QueuesSound) ∧
    ∀ s t : State, s.StacksSound → step s = .next t → t.StacksSound

/-- A key half holds a key only while its product is 0 or is covered (R80, R90, R96, R98, R99). -/
def Obligations.EveryStepKeepsKeysCovered : Prop :=
  ∀ s t : State, s.KeysCovered → step s = .next t → t.KeysCovered

/-- No two entries of the stream map have the same input and stream number, every COMPONENT entry has a lane,
and the map holds at most 96 entries (R5, R7, R8). No two allocated key slots serve one input and key stream (R76,
R77). -/
def Obligations.EveryStepKeepsStreamMapAndSlots : Prop :=
  (∀ s t : State, s.MapSound → step s = .next t → t.MapSound) ∧
    ∀ s t : State, s.SlotsDistinct → step s = .next t → t.SlotsDistinct

/-- The service table and the grant table stay within 64 records and 48 grants, one per number and one per
product and source (R19, R20, R95, R102); the guide table stays within 384 entries, in its order, and the entries of
one service never overlap (R137, R139 to R141). Two entries of one service whose intervals are empty may share their
start (log entry 30). -/
def Obligations.EveryStepKeepsTables : Prop :=
  (∀ s t : State, s.TablesSound → step s = .next t → t.TablesSound) ∧
    ∀ s t : State, s.guide.Sound → step s = .next t → t.guide.Sound

/-- The lane options and counts, the profiles' counters, the vote depth, the tick phase and N stay in their
ranges (sections 2.3 and 9.1, R32, R39, R81, R121, R172, R176, R177). -/
def Obligations.EveryStepKeepsRanges : Prop :=
  ∀ s t : State, s.InRange → step s = .next t → t.InRange

/-- A gate as R48 works it out is BLANK exactly while a blank reason is present; HOLD exactly while none is and the
lane is not PASSING or a hold reason is present; and RELEASING or PASS only while the lane is PASSING with an empty
reason set (R48). -/
def Obligations.SoundGatePassesOnlyCleanLanes : Prop :=
  ∀ l : Lane, l.gateTarget = l.gate →
    let blank := l.reasons.hostBlank = true ∨ l.reasons.rating = true ∨ l.reasons.window = true ∨
      l.reasons.budget = true ∨ l.reasons.access = true
    let hold := l.reasons.hostHold = true ∨ l.reasons.acquire = true ∨ l.reasons.degrade = true
    (l.gate = .blank ↔ blank) ∧ (l.gate = .hold ↔ ¬blank ∧ (l.state ≠ .passing ∨ hold)) ∧
    (l.gate = .releasing ∨ l.gate = .pass ↔ l.state = .passing ∧ l.reasons = {})

/-! ### Commands that set the part up -/

/-- SET UNIT sets the unit address once, and later ones are refused REFUSED (R206). SET ZONE stores a multiple
of 15 from −720 to 840, is otherwise refused RANGE, and moves nothing else of the clock (R128). SET KEY DEPTH stores 1
for 0, 15 above 15 and the next lower odd value for an even one, and is never refused; CLEAR KEYS empties the halves,
the candidates and the phase in use of an allocated slot and keeps its users and counts (R81, R91). -/
def Obligations.UnitZoneDepthAndClearKeys : Prop :=
  (∀ (tag : Word16) (address : Word32) (minutes : Word16) (s : State), s.portCReady = true →
    (s.unitAddress = none → exec (.setUnit tag address) s =
      .next (State.respond { s with unitAddress := some address } tag 0x01 .ok [.num 4 address.toNat])) ∧
    (s.unitAddress ≠ none → exec (.setUnit tag address) s = .next (s.respond tag 0x01 .refused [])) ∧
    exec (.setZone tag minutes) s = .next (
      if -720 ≤ minutes.toInt ∧ minutes.toInt ≤ 840 ∧ (15 : Int) ∣ minutes.toInt then
        State.respond { s with clock := { s.clock with zone := minutes.toInt } } tag 0x02 .ok
          [.int 2 minutes.toInt]
      else s.respond tag 0x02 .range [])) ∧
  ∀ (tag : Word16) (depth slot : Byte) (s : State), s.portCReady = true →
    let n := if depth.toNat = 0 then 1 else if 15 < depth.toNat then 15
      else if depth.toNat % 2 = 0 then depth.toNat - 1 else depth.toNat
    exec (.setKeyDepth tag depth) s = .next (State.respond { s with voteDepth := n } tag 0x0C .ok [.num 1 n]) ∧
    (15 < slot.toNat → exec (.clearKeys tag slot) s = .next (s.respond tag 0x2B .range [])) ∧
    (∀ k : Fin 16, k.val = slot.toNat →
      (s.slots[k] = none → exec (.clearKeys tag slot) s = .next (s.respond tag 0x2B .noSuch [])) ∧
      (∀ r, s.slots[k] = some r → exec (.clearKeys tag slot) s = .next (State.respond
        { s with slots :=
            s.slots.set k.val (some { r with phase := none, even := ⟨none, none⟩, odd := ⟨none, none⟩ }) k.isLt }
        tag 0x2B .ok [])))

/-- DECLARE INPUT of a bad value is refused RANGE, and of the value already declared has no effect (R4, R210).
Otherwise the input takes the declaration, every entry on it begins again with an absent last count and no partial
section, and each partial section there is discarded with cause INPUT (R4, R15); a lane on the input that can be
lost, whose service no input declares any longer, ends LOST with its host reasons alone (R37), and a lane that is
neither on the input, nor LOST, nor SURVEYING stays as it is. -/
def Obligations.DeclareInputLosesLanes : Prop :=
  ∀ (tag : Word16) (input present : Byte) (multiplex : Word16) (s : State), s.portCReady = true →
    (1 < input.toNat ∨ 1 < present.toNat ∨ (present = 1 ∧ multiplex = 0) →
      exec (.declareInput tag input present multiplex) s = .next (s.respond tag 0x03 .range [])) ∧
    (∀ (n : Input) (value : Option Nat), inputCode n = input.toNat →
      (present = 0 ∧ value = none ∨ present = 1 ∧ multiplex ≠ 0 ∧ value = some multiplex.toNat) →
      ((s.input n).declared = value →
        exec (.declareInput tag input present multiplex) s = .next (s.respond tag 0x03 .ok [])) ∧
      ((s.input n).declared ≠ value →
        ∃ u : State, exec (.declareInput tag input present multiplex) s = .next (u.respond tag 0x03 .ok []) ∧
          u = { s with inputA := u.inputA, inputB := u.inputB, map := u.map, keySections := u.keySections,
                       grantSections := u.grantSections, timeSections := u.timeSections,
                       guideSections := u.guideSections, lanes := u.lanes, surveys := u.surveys,
                       slots := u.slots, arbiters := u.arbiters, notices := u.notices, draws := u.draws } ∧
          u.input n = { s.input n with declared := value } ∧ (∀ m, m ≠ n → u.input m = s.input m) ∧
          (∀ en ∈ u.map, en.input = n →
            en.lastCount = none ∧ en.duplicateMark = false ∧ en.isAssembling = false) ∧
          (∀ k : SectionKind,
            let gone := s.map.filter fun en => decide (en.input = n ∧ en.route? = some k ∧ en.isAssembling = true)
            (gone = [] → u.sectionRecord k = s.sectionRecord k) ∧
            (gone ≠ [] → (u.sectionRecord k).lastCause = some .input ∧ Notice.sections k ∈ u.notices ∧
              (u.sectionRecord k).accepted = (s.sectionRecord k).accepted ∧
              (∃ en ∈ gone, (u.sectionRecord k).lastPair = some (n, en.stream)) ∧
              (u.sectionRecord k).discarded = min ((s.sectionRecord k).discarded + gone.length)
                (max 65535 (s.sectionRecord k).discarded))) ∧
          (∀ (i : Fin 6) (r : Service), s.laneService? i = some r → (s.lanes[i]).input = some n →
            (s.lanes[i]).state ∈ [LaneState.acquiring, .stalled, .passing, .degraded] →
            u.inputA.declared ≠ some r.multiplex → u.inputB.declared ≠ some r.multiplex →
            u.lanes[i] = Lane.closeGate s.lanes[i]
              { s.lanes[i] with
                state := .lost, step := none, health := 0, silence := 0, lastChange := some .lost,
                reasons := { hostHold := (s.lanes[i]).reasons.hostHold,
                             hostBlank := (s.lanes[i]).reasons.hostBlank } } ∧
            (∀ (m : Input) (x : Nat), ¬u.Member i m x ∧ ¬u.UsesSlot i m x) ∧ Notice.lane i ∈ u.notices) ∧
          (∀ i : Fin 6, (s.lanes[i]).input ≠ some n → (s.lanes[i]).state ≠ .lost →
            (s.lanes[i]).state ≠ .surveying → u.lanes[i] = s.lanes[i])))

/-- A changed declaration, at every lane together. First the lanes on the input whose service it no longer carries
leave their entries and slots: those that can be lost are LOST, and a SURVEYING one ends its turn NOT_CARRIED, not LOST
(R37, R73). A slot left by lost lanes alone is free. Then each LOST lane, the lanes just lost among them, re-acquires in
lane order on the input that declares its multiplex, A before B: `m i` holds the map and the slots as the lower lanes
have left them, by which it is refused CONFLICT or FULL or else ACQUIRING at step SIGNAL with ACQUIRE, its copy and
parental reasons worked out and its profile, counts, host reasons and auto-stop kept (R22, R38). Last, each survey goes
on to the first service that can be installed, or ends (R66, R71); a slot that its lane takes again keeps number and
contents (R78). That the surveys take up their next turns in lane order, and that a slot which would be taken again only
if it was kept counts as freed, are THE MODEL'S CHOICE (log entries 31 and 19). -/
def Obligations.DeclareInputReacquiresAndEndsTurns : Prop :=
  ∀ (tag : Word16) (input present : Byte) (multiplex : Word16) (s : State) (n : Input) (value : Option Nat),
    s.portCReady = true → s.MapSound → s.SlotsDistinct → inputCode n = input.toNat →
    (present = 0 ∧ value = none ∨ present = 1 ∧ multiplex ≠ 0 ∧ value = some multiplex.toNat) →
    (s.input n).declared ≠ value →
    let leaves (i : Fin 6) : Prop := (s.lanes[i]).input = some n ∧
      (s.laneService? i).map (fun r => r.multiplex) ≠ value
    let loses (i : Fin 6) : Prop := leaves i ∧
      (s.lanes[i]).state ∈ [LaneState.acquiring, .stalled, .passing, .degraded]
    let ends (i : Fin 6) : Prop := leaves i ∧ (s.lanes[i]).state = .surveying
    let same (v w : State) : Prop := v.map = w.map ∧ v.slots = w.slots
    ∃ (u : State) (m : Nat → State), exec (.declareInput tag input present multiplex) s =
        .next (u.respond tag 0x03 .ok []) ∧
      (∀ (i : Fin 6) (z : Input) (x : Nat),
        (loses i ∨ ends i → ¬(m 0).Member i z x ∧ ¬(m 0).UsesSlot i z x) ∧
        (¬(loses i ∨ ends i) →
          ((m 0).Member i z x ↔ s.Member i z x) ∧ ((m 0).UsesSlot i z x ↔ s.UsesSlot i z x))) ∧
      (∀ (k : Fin 16) (slot : KeySlot), s.slots[k] = some slot →
        ((m 0).slots[k] = none ∨ ∃ users, (m 0).slots[k] = some { slot with users := users }) ∧
        ((∃ j ∈ slot.users, ¬(loses j ∨ ends j)) → (m 0).slots[k] ≠ none) ∧
        (slot.input = n → slot.users ≠ [] → slot.users.Nodup → (∀ j ∈ slot.users, loses j) →
          (m 0).slots[k] = none)) ∧
      (∀ (i : Fin 6) (l : Lane),
        (loses i → l = { s.lanes[i] with
          state := .lost, step := none, health := 0, silence := 0, lastChange := some .lost,
          reasons := { hostHold := (s.lanes[i]).reasons.hostHold, hostBlank := (s.lanes[i]).reasons.hostBlank } }) →
        (¬loses i → l = s.lanes[i]) →
        (loses i → Notice.lane i ∈ u.notices) ∧ (l.state ≠ .lost → same (m (i.val + 1)) (m i.val)) ∧
        (l.state = .lost →
          (s.laneService? i = none → same (m (i.val + 1)) (m i.val) ∧ u.lanes[i] = Lane.closeGate s.lanes[i] l) ∧
          ∀ r, s.laneService? i = some r →
            (u.inputA.declared ≠ some r.multiplex → u.inputB.declared ≠ some r.multiplex →
              same (m (i.val + 1)) (m i.val) ∧ u.lanes[i] = Lane.closeGate s.lanes[i] l) ∧
            (∀ z : Input, (z = .a ∧ u.inputA.declared = some r.multiplex ∨
                z = .b ∧ u.inputA.declared ≠ some r.multiplex ∧ u.inputB.declared = some r.multiplex) →
              Notice.lane i ∈ u.notices ∧
              (∀ refusal, (m i.val).judge z r = some refusal → same (m (i.val + 1)) (m i.val) ∧
                u.lanes[i] = Lane.closeGate s.lanes[i]
                  { l with lastRefusal := some refusal, lastChange := some .reacquireRefused }) ∧
              ((m i.val).judge z r = none →
                let acquiring : Lane := { l with
                  state := .acquiring, step := some .signal, input := some z, ticks := 0, signalTick := none,
                  keyTick := none, entryTick := none, lastRefusal := none, lastChange := some .reacquiring,
                  copy := s.currentEntry r.number, reasons := { l.reasons with acquire := true } }
                (2 ≤ i.val ∨ l.profile = none → u.lanes[i] = Lane.closeGate s.lanes[i] acquiring) ∧
                (∀ p : Fin 4, i.val < 2 → l.profile = some p → u.lanes[i] = Lane.closeGate s.lanes[i]
                  { acquiring with reasons := { acquiring.reasons with
                      rating := acquiring.ratingHolds s.profiles[p]
                      window := (s.profiles[p]).windowHolds s.clock
                      budget := (s.profiles[p]).reached } }) ∧
                ((∀ (y : Input) (x : Nat), ¬(m i.val).Member i y x ∧ ¬(m i.val).UsesSlot i y x) →
                  (m i.val).InstalledFor (m (i.val + 1)) i z r))))) ∧
      (∀ i : Fin 6, ¬ends i → same (m (i.val + 7)) (m (i.val + 6))) ∧
      (∀ (i : Fin 6) (q : Nat) (record : SurveyRecord),
        let l := s.lanes[i]
        let t := s.surveys[i]
        let now := u.surveys[i]
        ends i → t.position = some (q + 1) → t.records[q]? = some record →
        ∃ last : Nat, q < last ∧ last ≤ t.records.length ∧ now.records.length = t.records.length ∧
          now.records[q]? = some { record with outcome := some .notCarried } ∧
          (∀ k, k < q ∨ last < k → now.records[k]? = t.records[k]?) ∧
          (∀ (k : Nat) (next : SurveyRecord), q < k → k < last → t.records[k]? = some next →
            let fate (outcome : SurveyOutcome) (refusal : Option InstallRefusal) : Prop :=
              now.records[k]? = some { next with outcome := some outcome, refusal := refusal }
            s.service? next.service = none ∧ fate .noSuch none ∨
            (∃ r, s.service? next.service = some r ∧ u.carrier r.multiplex = none ∧ fate .notCarried none) ∨
            ∃ r z refusal, s.service? next.service = some r ∧ u.carrier r.multiplex = some z ∧
              (m (i.val + 6)).judge z r = some refusal ∧ fate .notCarried (some refusal)) ∧
          (last = t.records.length → now.status = .complete ∧ now.position = none ∧ Notice.survey i ∈ u.notices ∧
            same (m (i.val + 7)) (m (i.val + 6)) ∧ u.lanes[i] = Lane.closeGate l
              { l with
                state := .idle, step := none, service := none, input := none, profile := none, health := 0,
                silence := 0, copy := none, autoStop := none, reasons := { l.reasons with acquire := false } }) ∧
          (last < t.records.length → ∃ (next : SurveyRecord) (r : Service) (z : Input),
            t.records[last]? = some next ∧ s.service? next.service = some r ∧ u.carrier r.multiplex = some z ∧
            (m (i.val + 6)).judge z r = none ∧ now.records[last]? = some { next with input := some z } ∧
            now.status = t.status ∧ now.position = some (last + 1) ∧
            u.lanes[i] = { l with
              service := some r.number, input := some z, ticks := 0, step := some .signal, signalTick := none,
              keyTick := none, entryTick := none, health := 0, silence := 0 } ∧
            (m (i.val + 6)).InstalledFor (m (i.val + 7)) i z r ∧
            ∀ (k : Fin 16) (slot : KeySlot), s.slots[k] = some slot → i ∈ slot.users → slot.input = z →
              r.keyStream = some slot.stream → (∀ j, j ≠ i → ¬leaves j ∧ (s.lanes[j]).state ≠ .lost) →
              (∀ (y : Input) (x : Nat), s.UsesSlot i y x → y = z ∧ r.keyStream = some x) →
              ∃ users, u.slots[k] = some { slot with users := users })) ∧
      (∀ (i : Fin 6) (z : Input) (x : Nat),
        (u.Member i z x ↔ (m 12).Member i z x) ∧ (u.UsesSlot i z x ↔ (m 12).UsesSlot i z x)) ∧
      (∀ (k : Fin 16) (slot : KeySlot), (m 12).slots[k] = some slot → slot.users ≠ [] → u.slots[k] = some slot) ∧
      ∀ en : MapEntry, (en ∈ u.map → en ∈ (m 12).map) ∧
        (en ∈ (m 12).map → en.route? ≠ some .key → en ∈ u.map)

/-- LOAD SERVICE: RANGE, IN_USE and FULL in that order; otherwise the record is stored whole, in the place of an
earlier record of its number if there is one (R19, R20, R209, R210). DROP SERVICE is refused NO_SUCH and IN_USE in
that order and otherwise removes the record; READ SERVICE returns the record with every field as loaded, or NO_SUCH,
and changes nothing (R21). The count byte before the components of a result is THE MODEL'S CHOICE (log entry 10). -/
def Obligations.ServiceTableCommands : Prop :=
  (∀ (tag service multiplex : Word16) (components : List (Word16 × Byte)) (keyPresent : Byte)
    (keyStream baseProduct : Word16) (s : State), s.portCReady = true →
    let c := Instr.loadService tag service multiplex components keyPresent keyStream baseProduct
    let n := service.toNat
    let inRange := service ≠ 0 ∧ multiplex ≠ 0 ∧ 1 ≤ components.length ∧ components.length ≤ 6 ∧
      keyPresent.toNat ≤ 1 ∧ (keyPresent = 1 → keyStream.toNat ≤ 8190) ∧
      (∀ k ∈ components, k.1.toNat ≤ 8190 ∧ k.2.toNat ≤ 2) ∧ (components.map fun k => k.1).Nodup
    let exists' := ∃ r ∈ s.services, r.number = n
    let inUse := ∃ i : Fin 6, (s.lanes[i]).state ≠ .idle ∧ (s.lanes[i]).service = some n
    let record : Service :=
      { number := n, multiplex := multiplex.toNat,
        components := components.map fun k =>
          ⟨k.1.toNat, if k.2 = 0 then .video else if k.2 = 1 then .audio else .data⟩,
        keyStream := if keyPresent = 1 then some keyStream.toNat else none, baseProduct := baseProduct.toNat }
    (¬inRange → exec c s = .next (s.respond tag 0x04 .range [])) ∧
    (inRange → exists' → inUse → exec c s = .next (s.respond tag 0x04 .inUse [])) ∧
    (inRange → ¬exists' → 64 ≤ s.services.length → exec c s = .next (s.respond tag 0x04 .full [])) ∧
    (inRange → exists' → ¬inUse → exec c s = .next (State.respond
      { s with services := s.services.map fun q => if q.number = n then record else q } tag 0x04 .ok [])) ∧
    (inRange → ¬exists' → s.services.length < 64 → exec c s = .next (State.respond
      { s with services := s.services ++ [record] } tag 0x04 .ok []))) ∧
  ∀ (tag service : Word16) (s : State), s.portCReady = true →
    let n := service.toNat
    let exists' := ∃ r ∈ s.services, r.number = n
    let inUse := ∃ i : Fin 6, (s.lanes[i]).state ≠ .idle ∧ (s.lanes[i]).service = some n
    (¬exists' → exec (.dropService tag service) s = .next (s.respond tag 0x05 .noSuch []) ∧
      exec (.readService tag service) s = .next (s.respond tag 0x41 .noSuch [])) ∧
    (exists' → inUse → exec (.dropService tag service) s = .next (s.respond tag 0x05 .inUse [])) ∧
    (exists' → ¬inUse → exec (.dropService tag service) s = .next (State.respond
      { s with services := s.services.filter fun q => decide (q.number ≠ n) } tag 0x05 .ok [])) ∧
    (∀ r, s.services.find? (fun q => decide (q.number = n)) = some r →
      let head : List Field := [.num 2 n, .num 2 r.multiplex, .num 1 r.components.length]
      let component (k : Component) : List Field := [.num 2 k.stream, .num 1 k.type.code]
      let tail : List Field := [.ones 2 r.keyStream, .num 2 r.baseProduct]
      exec (.readService tag service) s =
        .next (s.respond tag 0x41 .ok (head ++ r.components.flatMap component ++ tail)))

/-- ADD ROUTE and DROP ROUTE: RANGE; a held pair is ALREADY with the same route and CONFLICT otherwise; FULL; a
new MESSAGE entry begins with no last count, a clear mark and an IDLE assembly. A drop is NO_SUCH without a
route, IN_USE for a KEY route, and otherwise frees the entry without a notice (R5, R9, R10). -/
def Obligations.HostRoutesAddedAndDropped : Prop :=
  ∀ (tag : Word16) (input : Byte) (stream : Word16) (kind : Byte) (s : State), s.portCReady = true →
    (1 < input.toNat ∨ 8190 < stream.toNat ∨ kind.toNat < 2 ∨ 4 < kind.toNat →
      exec (.addRoute tag input stream kind) s = .next (s.respond tag 0x06 .range [])) ∧
    (1 < input.toNat ∨ 8190 < stream.toNat →
      exec (.dropRoute tag input stream) s = .next (s.respond tag 0x07 .range [])) ∧
    (∀ n : Input, inputCode n = input.toNat → stream.toNat ≤ 8190 →
      (∀ route : SectionKind, route.code = kind.toNat → route ≠ .key →
        (∀ en, s.entry? n stream.toNat = some en →
          exec (.addRoute tag input stream kind) s =
            .next (s.respond tag 0x06 (if en.route? = some route then .already else .conflict) [])) ∧
        (s.entry? n stream.toNat = none → 96 ≤ s.map.length →
          exec (.addRoute tag input stream kind) s = .next (s.respond tag 0x06 .full [])) ∧
        (s.entry? n stream.toNat = none → s.map.length < 96 →
          exec (.addRoute tag input stream kind) s = .next (State.respond
            { s with map := s.map ++
                [{ input := n, stream := stream.toNat, role := .message route .idle, lastCount := none,
                   duplicateMark := false }] } tag 0x06 .ok []))) ∧
      ((∀ en, s.entry? n stream.toNat = some en → en.route? = none) →
        exec (.dropRoute tag input stream) s = .next (s.respond tag 0x07 .noSuch [])) ∧
      (∀ en, s.entry? n stream.toNat = some en → en.route? = some .key →
        exec (.dropRoute tag input stream) s = .next (s.respond tag 0x07 .inUse [])) ∧
      (∀ en route, s.entry? n stream.toNat = some en → en.route? = some route → route ≠ .key →
        exec (.dropRoute tag input stream) s = .next (State.respond
          { s with map := s.map.filter fun en => decide ¬(en.input = n ∧ en.stream = stream.toNat) }
          tag 0x07 .ok [])))

/-- LOAD PROFILE: a value out of its range is refused RANGE; otherwise the seven settings are stored, the
counters kept, and each evaluated lane of the profile gets the reasons that R163, R165 and R166 call for
(R160, R162, R209, R210). The three conditions: RATING unless an override applies, when the copy's rating is above the
ceiling, or there is no copy and the policy is BLOCK; WINDOW outside a restricted window or without a valid
clock, unless a period override runs; BUDGET when a limited budget is reached (R158, R163 to R166). -/
def Obligations.LoadProfileAndParentalConditions : Prop :=
  (∀ (tag : Word16) (profile : Byte) (pin : Word16) (purchase ceiling policy : Byte)
    (windowStart windowEnd budget : Word16) (s : State), s.portCReady = true →
    let c := Instr.loadProfile tag profile pin purchase ceiling policy windowStart windowEnd budget
    let inRange := (pin.toNat ≤ 9999 ∨ pin = 0xFFFF) ∧ purchase.toNat ≤ 1 ∧ ceiling.toNat ≤ 15 ∧
      policy.toNat ≤ 1 ∧ windowStart.toNat ≤ 1439 ∧ windowEnd.toNat ≤ 1439 ∧ budget.toNat ≤ 1440
    (3 < profile.toNat ∨ ¬inRange → exec c s = .next (s.respond tag 0x08 .range [])) ∧
    (∀ p : Fin 4, p.val = profile.toNat → inRange →
      ∃ u : State, exec c s = .next (u.respond tag 0x08 .ok []) ∧
        u = { s with profiles := u.profiles, lanes := u.lanes, arbiters := u.arbiters, notices := u.notices } ∧
        (u.profiles[p] =
          { s.profiles[p] with
            pin := if pin = 0xFFFF then none else some pin.toNat, purchaseAllowed := purchase == 1,
            ceiling := ceiling.toNat, unrated := if policy = 1 then .block else .allow,
            windowStart := windowStart.toNat, windowEnd := windowEnd.toNat, budget := budget.toNat }) ∧
        (∀ q : Fin 4, q ≠ p → u.profiles[q] = s.profiles[q]) ∧
        (∀ i : Fin 6, u.lanes[i] =
          if i.val < 2 ∧ (s.lanes[i]).profile = some p ∧
              (s.lanes[i]).state ∈ [LaneState.acquiring, .stalled, .passing, .degraded] then
            Lane.closeGate s.lanes[i]
              { s.lanes[i] with reasons := { (s.lanes[i]).reasons with
                  rating := (s.lanes[i]).ratingHolds u.profiles[p]
                  window := (u.profiles[p]).windowHolds s.clock
                  budget := (u.profiles[p]).reached } }
          else s.lanes[i]))) ∧
  ∀ (l : Lane) (p : Profile) (c : Clock),
    (l.ratingHolds p = true ↔
      ¬((∃ id g, l.override = some (.event id) ∧ l.copy = some g ∧ g.event = id) ∨
          (l.override = some .unguided ∧ l.copy = none)) ∧ p.period = 0 ∧
        ((∃ g, l.copy = some g ∧ p.ceiling < g.rating) ∨ (l.copy = none ∧ p.unrated = .block))) ∧
    (p.windowHolds c = true ↔ p.windowStart ≠ p.windowEnd ∧ p.period = 0 ∧
      (c.valid = false ∨
        (p.windowStart < p.windowEnd ∧ ¬(p.windowStart ≤ c.minuteOfDay ∧ c.minuteOfDay < p.windowEnd)) ∨
        (p.windowEnd < p.windowStart ∧ ¬(p.windowStart ≤ c.minuteOfDay ∨ c.minuteOfDay < p.windowEnd)))) ∧
    (p.reached = true ↔ p.budget < 1440 ∧ 60 * p.budget + p.extension ≤ p.used)

/-- SET TIMER: RANGE as R149 lists it, the display not examined for RECORD nor the lane and duration for REMIND;
otherwise the timer is replaced whole, SET, with no firing recorded, and nothing else changes (R149, R209). CLEAR
TIMER and READ TIMER (R150): a number above 23 is RANGE; clearing an EMPTY timer is NO_SUCH, and otherwise the timer
becomes EMPTY and keeps its other fields (log entry 29); a read returns every field in the order of the timer table,
the codes of the last outcome and cause being THE MODEL'S CHOICE (log entry 10). -/
def Obligations.TimersSetClearedAndRead : Prop :=
  (∀ (tag : Word16) (timer weekday hour minute action display lane : Byte) (service duration : Word16)
    (repeats : Byte) (s : State), s.portCReady = true →
    let c := Instr.setTimer tag timer weekday hour minute action display lane service duration repeats
    let inRange := (weekday.toNat ≤ 6 ∨ weekday = 255) ∧ (hour.toNat ≤ 23 ∨ hour = 255) ∧
      (minute.toNat ≤ 59 ∨ minute = 255) ∧ action.toNat ≤ 1 ∧ (action = 0 → display.toNat ≤ 1) ∧
      (action = 1 → 2 ≤ lane.toNat ∧ lane.toNat ≤ 5 ∧ 1 ≤ duration.toNat ∧ duration.toNat ≤ 720) ∧
      service ≠ 0 ∧ repeats.toNat ≤ 1
    (23 < timer.toNat ∨ ¬inRange → exec c s = .next (s.respond tag 0x09 .range [])) ∧
    (∀ t : Fin 24, t.val = timer.toNat → inRange →
      let new : Timer :=
        { isSet := true
          weekday := if weekday = 255 then none else some weekday.toNat
          hour := if hour = 255 then none else some hour.toNat
          minute := if minute = 255 then none else some minute.toNat
          action := if action = 1 then .record else .remind
          display := display.toNat, lane := lane.toNat, service := service.toNat
          duration := duration.toNat, repeats := repeats == 1
          lastFired := none, lastOutcome := none, lastCause := none }
      exec c s = .next (State.respond { s with timers := s.timers.set t.val new t.isLt } tag 0x09 .ok []))) ∧
  ∀ (tag : Word16) (timer : Byte) (s : State), s.portCReady = true →
    (23 < timer.toNat → exec (.clearTimer tag timer) s = .next (s.respond tag 0x0A .range []) ∧
      exec (.readTimer tag timer) s = .next (s.respond tag 0x49 .range [])) ∧
    (∀ t : Fin 24, t.val = timer.toNat →
      ((s.timers[t]).isSet = false →
        exec (.clearTimer tag timer) s = .next (s.respond tag 0x0A .noSuch [])) ∧
      ((s.timers[t]).isSet = true → exec (.clearTimer tag timer) s = .next (State.respond
        { s with timers := s.timers.set t.val { s.timers[t] with isSet := false } t.isLt } tag 0x0A .ok [])) ∧
      exec (.readTimer tag timer) s = .next (s.respond tag 0x49 .ok
        [flag (s.timers[t]).isSet, .num 1 ((s.timers[t]).weekday.getD 255), .num 1 ((s.timers[t]).hour.getD 255),
          .num 1 ((s.timers[t]).minute.getD 255), .num 1 (s.timers[t]).action.code, .num 1 (s.timers[t]).display,
          .num 1 (s.timers[t]).lane, .num 2 (s.timers[t]).service, .num 2 (s.timers[t]).duration,
          flag (s.timers[t]).repeats, .ones 4 (s.timers[t]).lastFired,
          .ones 1 ((s.timers[t]).lastOutcome.map TimerOutcome.code),
          .ones 1 ((s.timers[t]).lastCause.map TimerCause.code)]))

/-- SET LANE OPTIONS: RANGE for a lane above 5 or a hold-at-end value above 1; the other values are clamped,
stored and returned, the health counter is lowered to a lowered ceiling, and a DEGRADED lane whose counter then
stands at the ceiling recovers to PASSING with a LANE notice (R33, R39, R40, R69). -/
def Obligations.SetLaneOptionsClampsAndRecovers : Prop :=
  ∀ (tag : Word16) (lane ceiling dwell silence hold : Byte) (s : State), s.portCReady = true →
    let c := Instr.setLaneOptions tag lane ceiling dwell silence hold
    let top := if ceiling.toNat = 0 then 1 else min ceiling.toNat 31
    (5 < lane.toNat ∨ 1 < hold.toNat → exec c s = .next (s.respond tag 0x0B .range [])) ∧
    (∀ i : Fin 6, i.val = lane.toNat → hold.toNat ≤ 1 →
      let stored : Lane := { s.lanes[i] with
        ceiling := top, dwell := max dwell.toNat 1, silenceLimit := max silence.toNat 1, holdAtEnd := hold == 1,
        health := min (s.lanes[i]).health top }
      let recovers := (s.lanes[i]).state = .degraded ∧ top ≤ (s.lanes[i]).health
      ∃ u : State, exec c s = .next (u.respond tag 0x0B .ok
          [.num 1 top, .num 1 (max dwell.toNat 1), .num 1 (max silence.toNat 1), .num 1 hold.toNat]) ∧
        u = { s with lanes := u.lanes, surveys := u.surveys, arbiters := u.arbiters, notices := u.notices } ∧
        (¬recovers → u.lanes[i] = stored) ∧
        (recovers → Notice.lane i ∈ u.notices ∧ u.lanes[i] = Lane.closeGate s.lanes[i]
          { stored with state := .passing, silence := 0, lastChange := some .recovered,
                        reasons := { (s.lanes[i]).reasons with degrade := false } }) ∧
        (∀ j : Fin 6, j ≠ i → u.lanes[j] = s.lanes[j] ∧ u.surveys[j] = s.surveys[j]) ∧
        ((s.lanes[i]).state ≠ .surveying → u.surveys = s.surveys))

/-! ### Lanes and surveys -/

/-- An accepted TUNE: the lane leaves its entries and slot and the service is installed on the input, which
`InstalledFor` says in full (R7, R8, R77, R78); the record is reset to ACQUIRING at step SIGNAL with the reason set
ACQUIRE and, on a viewing lane with a profile, the parental reasons; the response is OK and no LANE notice is newly
raised. The other lanes and the other display's arbiter are unchanged (R24, R25). That the KEY entry of a slot which
only this lane uses counts as free when the tune is judged is THE MODEL'S CHOICE (log entry 18). -/
def Obligations.TuneStartsAcquisition : Prop :=
  ∀ (tag : Word16) (lane : Byte) (service : Word16) (profile : Byte) (s : State) (i : Fin 6) (r : Service)
    (n : Input), s.portCReady = true → i.val = lane.toNat → (i.val < 2 → profile.toNat ≤ 3) →
    s.service? service.toNat = some r → s.carrier r.multiplex = some n → (s.detach i).judge n r = none →
    ∃ (u : State) (acquiring : Lane),
      exec (.tune tag lane service profile) s = .next (u.respond tag 0x20 .ok []) ∧
      u = { s with lanes := u.lanes, map := u.map, slots := u.slots, surveys := u.surveys,
                   arbiters := u.arbiters, notices := u.notices } ∧
      (s.MapSound → s.InstalledFor u i n r) ∧
      (∀ j : Fin 6, Notice.lane j ∈ u.notices → Notice.lane j ∈ s.notices) ∧
      acquiring =
        { s.lanes[i] with
          state := .acquiring, step := some .signal, service := some service.toNat, input := some n,
          profile := if i.val < 2 then profileOf profile.toNat else none,
          health := 0, ticks := 0, silence := 0, signalTick := none, keyTick := none, entryTick := none,
          errors := 0, overruns := 0, override := none, autoStop := none,
          copy := s.currentEntry service.toNat, lastChange := some .tuned, lastRefusal := none,
          reasons := { acquire := true } } ∧
      (2 ≤ i.val → u.lanes[i] = Lane.closeGate s.lanes[i] acquiring) ∧
      (∀ p : Fin 4, i.val < 2 → p.val = profile.toNat → u.lanes[i] = Lane.closeGate s.lanes[i]
        { acquiring with
          reasons :=
            { acquire := true, rating := acquiring.ratingHolds s.profiles[p],
              window := (s.profiles[p]).windowHolds s.clock, budget := (s.profiles[p]).reached } }) ∧
      (∀ j : Fin 6, j ≠ i → u.lanes[j] = s.lanes[j] ∧ u.surveys[j] = s.surveys[j]) ∧
      ((s.lanes[i]).state ≠ .surveying → u.surveys = s.surveys) ∧
      ((s.lanes[i]).state = .surveying → (u.surveys[i]).status = .aborted ∧ (u.surveys[i]).position = none ∧
        Notice.survey i ∈ u.notices) ∧
      (∀ d : Fin 2, laneOfDisplay d ≠ i → u.arbiters[d] = s.arbiters[d])

/-- A refused TUNE changes nothing, the checks taken in the order of R24: RANGE, NO_SUCH, NOT_CARRIED, then
CONFLICT or FULL as the stream map and the slots judge the service with the lane removed (R7, R22, R24). An
installation is CONFLICT when a needed pair is held in a way that the request cannot use or the key stream is also a
component, otherwise FULL when the missing pairs outnumber the free places or a scrambled service finds neither its
slot nor a free one (R7, R24 checks 4 to 6). That the KEY entry of a slot which only this lane uses counts as free is
THE MODEL'S CHOICE (log entry 18). -/
def Obligations.TuneChecksInOrder : Prop :=
  (∀ (tag : Word16) (lane : Byte) (service : Word16) (profile : Byte) (s : State), s.portCReady = true →
    let c := Instr.tune tag lane service profile
    (5 < lane.toNat ∨ (lane.toNat < 2 ∧ 3 < profile.toNat) → exec c s = .next (s.respond tag 0x20 .range [])) ∧
    (∀ i : Fin 6, i.val = lane.toNat → (i.val < 2 → profile.toNat ≤ 3) →
      (s.service? service.toNat = none → exec c s = .next (s.respond tag 0x20 .noSuch [])) ∧
      (∀ r, s.service? service.toNat = some r →
        (s.inputA.declared ≠ some r.multiplex → s.inputB.declared ≠ some r.multiplex →
          exec c s = .next (s.respond tag 0x20 .notCarried [])) ∧
        (∀ n, (n = .a ∧ s.inputA.declared = some r.multiplex) ∨
            (n = .b ∧ s.inputA.declared ≠ some r.multiplex ∧ s.inputB.declared = some r.multiplex) →
          ((s.detach i).judge n r = some .conflict → exec c s = .next (s.respond tag 0x20 .conflict [])) ∧
          ((s.detach i).judge n r = some .full → exec c s = .next (s.respond tag 0x20 .full [])))))) ∧
  ∀ (s : State) (n : Input) (r : Service),
    let conflict :=
      (∃ c ∈ r.components, ∃ en, s.entry? n c.stream = some en ∧
        (en.route? ≠ none ∨ ∃ lanes slot, en.role = .component lanes slot ∧ s.slotStream slot ≠ r.keyStream)) ∨
      (∃ k, r.keyStream = some k ∧
        ((∃ c ∈ r.components, c.stream = k) ∨ ∃ en, s.entry? n k = some en ∧ en.route? ≠ some .key))
    let placesShort := 96 < s.map.length +
      (r.components.filter fun c => (s.entry? n c.stream).isNone).length +
      (match r.keyStream with
        | some k => if (s.entry? n k).isNone then 1 else 0
        | none => 0)
    let slotsShort := ∃ k, r.keyStream = some k ∧ (∀ (j : Fin 16) (slot : KeySlot), s.slots[j] = some slot →
      ¬(slot.input = n ∧ slot.stream = k)) ∧ ∀ j : Fin 16, s.slots[j] ≠ none
    (s.judge n r = some .conflict ↔ conflict) ∧
    (s.judge n r = some .full ↔ ¬conflict ∧ (placesShort ∨ slotsShort)) ∧
    (s.judge n r = none ↔ ¬conflict ∧ ¬placesShort ∧ ¬slotsShort)

/-- UNTUNE: RANGE above 5, OK with no effect on an IDLE lane, and otherwise the lane leaves its entries and slot,
which `LeftBy` says in full (R8, R78), and becomes IDLE with an empty reason set, the gate in HOLD and an empty
buffer, with no LANE notice; a survey in progress is aborted first (R35, R72). -/
def Obligations.UntuneLeavesTheLaneIdle : Prop :=
  ∀ (tag : Word16) (lane : Byte) (s : State), s.portCReady = true →
    (5 < lane.toNat → exec (.untune tag lane) s = .next (s.respond tag 0x21 .range [])) ∧
    (∀ i : Fin 6, i.val = lane.toNat →
      ((s.lanes[i]).state = .idle → exec (.untune tag lane) s = .next (s.respond tag 0x21 .ok [])) ∧
      ((s.lanes[i]).state ≠ .idle →
        ∃ u : State, exec (.untune tag lane) s = .next (u.respond tag 0x21 .ok []) ∧
          u = { s with lanes := u.lanes, map := u.map, slots := u.slots, surveys := u.surveys,
                       arbiters := u.arbiters, notices := u.notices } ∧
          (s.MapSound → s.LeftBy u i) ∧
          (∀ j : Fin 6, Notice.lane j ∈ u.notices → Notice.lane j ∈ s.notices) ∧
          u.lanes[i] =
            { s.lanes[i] with
              state := .idle, step := none, service := none, input := none, profile := none, health := 0,
              silence := 0, autoStop := none, override := none, copy := none, lastChange := some .untuned,
              reasons := {}, gate := .hold, buffer := .empty } ∧
          (∀ j : Fin 6, j ≠ i → u.lanes[j] = s.lanes[j] ∧ u.surveys[j] = s.surveys[j]) ∧
          ((s.lanes[i]).state ≠ .surveying → u.surveys = s.surveys) ∧
          ((s.lanes[i]).state = .surveying → (u.surveys[i]).status = .aborted ∧
            Notice.survey i ∈ u.notices)))

/-- LANE CONTROL: RANGE for a lane above 5 or an action above 2, NO_SUCH for an IDLE lane, BUSY for a SURVEYING
one; otherwise both actions are one change of the reason set, after which the gate works out its state once,
and the response carries the gate state, the reason set and the overrun count (R49, R54, R61). The numbering of the
gate states and the place of the overrun count are THE MODEL'S CHOICE (log entries 10 and 32). -/
def Obligations.LaneControlSetsHostReasons : Prop :=
  ∀ (tag : Word16) (lane hold blank : Byte) (s : State), s.portCReady = true →
    let c := Instr.laneControl tag lane hold blank
    let act (action : Byte) (present : Bool) : Bool :=
      if action = 1 then true else if action = 2 then false else present
    (5 < lane.toNat ∨ 2 < hold.toNat ∨ 2 < blank.toNat → exec c s = .next (s.respond tag 0x22 .range [])) ∧
    (∀ i : Fin 6, i.val = lane.toNat → hold.toNat ≤ 2 → blank.toNat ≤ 2 →
      ((s.lanes[i]).state = .idle → exec c s = .next (s.respond tag 0x22 .noSuch [])) ∧
      ((s.lanes[i]).state = .surveying → exec c s = .next (s.respond tag 0x22 .busy [])) ∧
      ((s.lanes[i]).state ≠ .idle → (s.lanes[i]).state ≠ .surveying →
        let after : Lane := Lane.closeGate s.lanes[i]
          { s.lanes[i] with reasons := { (s.lanes[i]).reasons with
              hostHold := act hold (s.lanes[i]).reasons.hostHold
              hostBlank := act blank (s.lanes[i]).reasons.hostBlank } }
        exec c s = .next (State.respond { s with lanes := s.lanes.set i.val after i.isLt } tag 0x22 .ok
          [.num 1 after.gate.code, .num 1 after.reasons.toByte, .num 2 (s.lanes[i]).overruns])))

/-- SURVEY: RANGE for a lane above 5, BUSY unless the lane is IDLE, then RANGE for a count of 0 or above 16
(R65). An accepted survey whose first service can be installed measures it: the table is RUNNING at position 1
with one new record per service, and the lane is SURVEYING with ACQUIRE alone at step SIGNAL (R65, R66). -/
def Obligations.SurveyTakesUpItsFirstTurn : Prop :=
  ∀ (tag : Word16) (lane : Byte) (services : List Word16) (s : State), s.portCReady = true →
    let c := Instr.survey tag lane services
    let new (n : Nat) : SurveyRecord :=
      { service := n, input := none, outcome := none, refusal := none, leadPackets := 0, leadSaturated := false,
        badEvents := 0, scrambledSeen := false, keyObtained := false, firstEntryTick := none, lockTick := none }
    (5 < lane.toNat → exec c s = .next (s.respond tag 0x23 .range [])) ∧
    (∀ i : Fin 6, i.val = lane.toNat →
      ((s.lanes[i]).state ≠ .idle → exec c s = .next (s.respond tag 0x23 .busy [])) ∧
      ((s.lanes[i]).state = .idle → services.length = 0 ∨ 16 < services.length →
        exec c s = .next (s.respond tag 0x23 .range [])) ∧
      (∀ (first : Word16) (rest : List Word16) (r : Service) (n : Input), (s.lanes[i]).state = .idle →
        services = first :: rest → services.length ≤ 16 → s.service? first.toNat = some r →
        s.carrier r.multiplex = some n → s.judge n r = none →
        ∃ u : State, exec c s = .next (u.respond tag 0x23 .ok []) ∧
          u = { s with lanes := u.lanes, map := u.map, slots := u.slots, surveys := u.surveys,
                       arbiters := u.arbiters, notices := u.notices } ∧
          u.map = (s.install i n r).map ∧ u.slots = (s.install i n r).slots ∧
          (s.MapSound → (∀ m x, ¬s.Member i m x ∧ ¬s.UsesSlot i m x) → s.InstalledFor u i n r) ∧
          u.surveys[i] =
            { status := .running, position := some 1,
              records := { new first.toNat with input := some n } :: rest.map fun m => new m.toNat } ∧
          u.lanes[i] = Lane.closeGate s.lanes[i]
            { s.lanes[i] with
              state := .surveying, step := some .signal, service := some first.toNat, input := some n,
              profile := none, override := none, copy := none, health := 0, silence := 0, ticks := 0,
              signalTick := none, keyTick := none, entryTick := none, errors := 0, overruns := 0,
              lastChange := none, lastRefusal := none, reasons := { acquire := true } } ∧
          (∀ j : Fin 6, j ≠ i → u.lanes[j] = s.lanes[j] ∧ u.surveys[j] = s.surveys[j])))

/-- The end of a survey turn whose dwell has run out, at the row SURVEY_TURN_END: its record ends DONE with its counts
and captures kept, and the lane leaves its entries and slot (R70). The records after it are taken up in turn (R66): a
service that is not loaded ends NO_SUCH, one that no input declares NOT_CARRIED, one that the map or the slots refuse
NOT_CARRIED with the refusal, each judged with the lane removed; the first that can be installed is measured from step
SIGNAL on, the error and overrun counts kept, and a slot that it takes again has not been freed in between (R78), so
that the records before it were judged with that slot in its place. When no record remains the survey ends COMPLETE
with a SURVEY notice and the lane is IDLE (R71). That the row acts alone, and that a slot which a turn would take again
only if it was kept counts as freed, are THE MODEL'S CHOICE (log entries 11 and 19). -/
def Obligations.SurveyTurnsTakenUp : Prop :=
  ∀ (i : Fin 6) (s : State) (q last : Nat) (ending : SurveyRecord) (fates : Nat → SurveyOutcome × Option InstallRefusal),
    let l := s.lanes[i]
    let t := s.surveys[i]
    s.resetHeld = false → s.MapSound → s.SlotsDistinct → l.state = .surveying → l.dwell ≤ l.ticks →
    t.position = some (q + 1) → t.records[q]? = some ending → q < last → last ≤ t.records.length →
    let judged (kept : List (Input × Nat)) : Prop :=
      ∀ (k : Nat) (record : SurveyRecord), q < k → k < last → t.records[k]? = some record →
        s.service? record.service = none ∧ fates k = (.noSuch, none) ∨
        (∃ r, s.service? record.service = some r ∧ s.carrier r.multiplex = none ∧ fates k = (.notCarried, none)) ∨
        ∃ r n refusal, s.service? record.service = some r ∧ s.carrier r.multiplex = some n ∧
          (s.detach i).judge n r ≠ none ∧ (s.detachKeeping i kept).judge n r = some refusal ∧
          fates k = (.notCarried, some refusal)
    let told (records : List SurveyRecord) : Prop :=
      records.length = t.records.length ∧ records[q]? = some { ending with outcome := some .done } ∧
      (∀ k, k < q ∨ last < k → records[k]? = t.records[k]?) ∧
      ∀ (k : Nat) (record : SurveyRecord), q < k → k < last → t.records[k]? = some record →
        records[k]? = some { record with outcome := some (fates k).1, refusal := (fates k).2 }
    (last = t.records.length → judged [] →
      ∃ u : State, exec (.surveyTurnEnd i) s = .next u ∧
        u = { s with lanes := u.lanes, map := u.map, slots := u.slots, surveys := u.surveys,
                     arbiters := u.arbiters, notices := u.notices } ∧
        s.LeftBy u i ∧ told (u.surveys[i]).records ∧
        (u.surveys[i]).status = .complete ∧ (u.surveys[i]).position = none ∧ Notice.survey i ∈ u.notices ∧
        u.lanes[i] = Lane.closeGate l
          { l with
            state := .idle, step := none, service := none, input := none, profile := none, health := 0,
            silence := 0, copy := none, autoStop := none, reasons := { l.reasons with acquire := false } } ∧
        ∀ j : Fin 6, j ≠ i → u.lanes[j] = s.lanes[j] ∧ u.surveys[j] = s.surveys[j]) ∧
    (∀ (record : SurveyRecord) (r : Service) (n : Input), t.records[last]? = some record →
      s.service? record.service = some r → s.carrier r.multiplex = some n → (s.detach i).judge n r = none →
      judged (r.keyPair n).toList →
      ∃ u : State, exec (.surveyTurnEnd i) s = .next u ∧
        u = { s with lanes := u.lanes, map := u.map, slots := u.slots, surveys := u.surveys,
                     arbiters := u.arbiters, notices := u.notices } ∧
        s.InstalledFor u i n r ∧ told (u.surveys[i]).records ∧
        (u.surveys[i]).records[last]? = some { record with input := some n } ∧
        (u.surveys[i]).status = t.status ∧ (u.surveys[i]).position = some (last + 1) ∧
        u.lanes[i] =
          { l with
            service := some r.number, input := some n, ticks := 0, step := some .signal, signalTick := none,
            keyTick := none, entryTick := none, health := 0, silence := 0 } ∧
        ∀ j : Fin 6, j ≠ i → u.lanes[j] = s.lanes[j] ∧ u.surveys[j] = s.surveys[j])

/-! ### Purchases and PINs -/

/-- PURCHASE of a profile above 3 or a PIN above 9999 is refused RANGE; then NO_CLOCK, LOCKED_OUT and BAD_PIN in
that order (R109 to R111). UNLOCK of a PIN above 9999, a scope above 2, a lane above 5, or a profile above 3 or 0
minutes where they are examined is refused RANGE; then LOCKED_OUT and BAD_PIN for profile 0, and with a correct PIN
NO_SUCH for a lane that is no viewing lane, IDLE or SURVEYING (R174). A wrong PIN counts a failure, and the third
begins a lockout of 900 seconds with a PROFILE notice; a correct one sets the failure count to 0 (R172). -/
def Obligations.PurchaseAndUnlockAskForThePin : Prop :=
  ∀ (tag : Word16) (profile : Byte) (pin service event : Word16) (scope target : Byte) (minutes : Word16)
    (s : State), s.portCReady = true →
    let c := Instr.purchase tag profile pin service event
    let k := Instr.unlock tag pin scope target minutes
    let wrong (p : Fin 4) : State :=
      if (s.profiles[p]).failures < 2 then s.modProfile p fun r => { r with failures := r.failures + 1 }
      else { s.modProfile p fun r => { r with failures := 0, lockout := 900, lastChange := some .lockedOut } with
        notices := if Notice.profile p ∈ s.notices then s.notices else s.notices ++ [Notice.profile p] }
    let master := s.profiles[(0 : Fin 4)]
    (3 < profile.toNat ∨ 9999 < pin.toNat → exec c s = .next (s.respond tag 0x24 .range [])) ∧
    (∀ p : Fin 4, p.val = profile.toNat → pin.toNat ≤ 9999 →
      (s.clock.valid = false → exec c s = .next (s.respond tag 0x24 .noClock [])) ∧
      (s.clock.valid = true → 0 < (s.profiles[p]).lockout →
        exec c s = .next (s.respond tag 0x24 .lockedOut [])) ∧
      (s.clock.valid = true → (s.profiles[p]).lockout = 0 → (s.profiles[p]).pin ≠ some pin.toNat →
        ¬(master.pin = some pin.toNat ∧ master.lockout = 0) →
        exec c s = .next ((wrong p).respond tag 0x24 .badPin []))) ∧
    let inRange := pin.toNat ≤ 9999 ∧ scope.toNat ≤ 2 ∧ (scope = 0 → target.toNat ≤ 5) ∧
      (scope ≠ 0 → target.toNat ≤ 3 ∧ minutes ≠ 0)
    (¬inRange → exec k s = .next (s.respond tag 0x26 .range [])) ∧
    (inRange → 0 < master.lockout → exec k s = .next (s.respond tag 0x26 .lockedOut [])) ∧
    (inRange → master.lockout = 0 → master.pin ≠ some pin.toNat →
      exec k s = .next ((wrong 0).respond tag 0x26 .badPin [])) ∧
    (∀ i : Fin 6, inRange → master.lockout = 0 → master.pin = some pin.toNat → scope = 0 → i.val = target.toNat →
      2 ≤ i.val ∨ (s.lanes[i]).state = .idle ∨ (s.lanes[i]).state = .surveying →
      exec k s = .next (State.respond (s.modProfile 0 fun r => { r with failures := 0 }) tag 0x26 .noSuch []))

/-- Checks 4 to 11 of a PURCHASE whose PIN matched, in their order, each a refusal that leaves only the failure
count at 0 (R110, R111). Check 11 clears the ended grants first: in a table of 48, FULL means that none had ended. The
entry that they examine is an entry of the service and event: the earliest-starting one whose end is greater than N, or
the latest-starting one when all have ended; there is none when none matches (R109). -/
def Obligations.PurchaseChecksInOrder : Prop :=
  (∀ (s : State) (service event : Nat),
    let matching (g : GuideEntry) : Prop := g ∈ s.guide.entries ∧ g.service = service ∧ g.event = event
    (s.purchaseEntry service event = none ↔ ∀ g, ¬matching g) ∧
    (∀ g, s.purchaseEntry service event = some g → matching g ∧
      (s.clock.now < g.stop → ∀ h, matching h → s.clock.now < h.stop → g.start ≤ h.start) ∧
      (g.stop ≤ s.clock.now → ∀ h, matching h → h.stop ≤ s.clock.now ∧ h.start ≤ g.start))) ∧
  ∀ (tag : Word16) (profile : Byte) (pin service event : Word16) (s : State) (p : Fin 4), s.portCReady = true →
    p.val = profile.toNat → pin.toNat ≤ 9999 → s.clock.valid = true → (s.profiles[p]).lockout = 0 →
    ((s.profiles[p]).pin = some pin.toNat ∨
      ((s.profiles[(0 : Fin 4)]).pin = some pin.toNat ∧ (s.profiles[(0 : Fin 4)]).lockout = 0)) →
    let refused (status : Status) := exec (.purchase tag profile pin service event) s =
      .next (State.respond (s.modProfile p fun r => { r with failures := 0 }) tag 0x24 status [])
    let barred := (s.profiles[p]).pin = some pin.toNat ∧ (s.profiles[p]).purchaseAllowed = false
    (barred → refused .refused) ∧
    (¬barred → s.purchaseEntry service.toNat event.toNat = none → refused .noSuch) ∧
    (∀ g, ¬barred → s.purchaseEntry service.toNat event.toNat = some g →
      (g.price = 0 → refused .notOffered) ∧
      (g.price ≠ 0 → g.stop ≤ s.clock.now → refused .tooLate) ∧
      (g.price ≠ 0 → s.clock.now < g.stop →
        let held := s.covered g.product (max s.clock.now g.start) = true ∨
          ∃ h ∈ s.entitlement.grants, h.product = g.product ∧ h.source = .purchase
        let affordable := s.entitlement.spent + g.price ≤ s.entitlement.ceiling
        (held → refused .already) ∧
        (¬held → ¬affordable → refused .noCredit) ∧
        (¬held → affordable → 32 ≤ s.entitlement.log.length → refused .logFull) ∧
        (¬held → affordable → s.entitlement.log.length < 32 → s.entitlement.grants.length = 48 →
          (∀ h ∈ s.entitlement.grants, h.endedAt s.clock.now = false) → refused .full)))

/-- An accepted PURCHASE: the ended grants are cleared, and if there were any, last change is EXPIRED and a GRANT
notice is raised (R98, R110 check 11); the record is appended, next sequence and spent rise, the PURCHASE grant enters
the table, the slots are rescanned once, and the response carries the sequence, the price, the grant's times, spent
and the ceiling (R107, R108, R112). The purchase itself raises no notice. -/
def Obligations.PurchaseAppendsRecordAndGrant : Prop :=
  ∀ (tag : Word16) (profile : Byte) (pin service event : Word16) (s : State) (p : Fin 4) (g : GuideEntry),
    s.portCReady = true → p.val = profile.toNat → pin.toNat ≤ 9999 → s.clock.valid = true →
    (s.profiles[p]).lockout = 0 →
    ((s.profiles[p]).pin = some pin.toNat ∧ (s.profiles[p]).purchaseAllowed = true ∨
      (s.profiles[p]).pin ≠ some pin.toNat ∧ (s.profiles[(0 : Fin 4)]).pin = some pin.toNat ∧
        (s.profiles[(0 : Fin 4)]).lockout = 0) →
    s.purchaseEntry service.toNat event.toNat = some g → g.price ≠ 0 → s.clock.now < g.stop →
    s.covered g.product (max s.clock.now g.start) = false →
    (∀ h ∈ s.entitlement.grants, ¬(h.product = g.product ∧ h.source = .purchase)) →
    s.entitlement.spent + g.price ≤ s.entitlement.ceiling → s.entitlement.log.length < 32 →
    let n := s.entitlement
    let left := n.grants.filter fun h => !h.endedAt s.clock.now
    left.length < 48 →
    let bought : Entitlement :=
      { n with
        log := n.log ++
          [{ sequence := n.nextSequence, event := g.event, service := g.service, product := g.product,
             price := g.price, time := s.clock.now, profile := p, state := .active }]
        nextSequence := (n.nextSequence + 1) % 65536
        spent := n.spent + g.price
        grants := placeGrant
          { product := g.product, source := .purchase, start := g.start, stop := some g.stop,
            sequence := some n.nextSequence } left
        lastChange := if left = n.grants then n.lastChange else some .expired }
    exec (.purchase tag profile pin service event) s = .next (State.respond
      { State.rescan { s.modProfile p fun r => { r with failures := 0 } with entitlement := bought } with
        notices := if left = n.grants ∨ Notice.grant ∈ s.notices then s.notices else s.notices ++ [Notice.grant] }
      tag 0x24 .ok
      [.num 2 n.nextSequence, .num 2 g.price, .num 4 g.start, .num 4 g.stop, .num 2 (n.spent + g.price),
        .num 2 n.ceiling])

/-- CANCEL: NO_SUCH without an ACTIVE record, NO_CLOCK, TOO_LATE without its grant or from the grant's start on;
otherwise the record becomes CANCELLED, spent falls by its price, its grant is removed and the slots are
rescanned (R114). The record's grant is the one of its product and sequence; that a grant which shares the sequence
alone is another record's is an inference (log entry 34). -/
def Obligations.CancelReturnsCredit : Prop :=
  ∀ (tag sequence : Word16) (s : State), s.portCReady = true →
    let c := Instr.cancel tag sequence
    let n := s.entitlement
    let q := sequence.toNat
    ((∀ r ∈ n.log, ¬(r.sequence = q ∧ r.state = .active)) → exec c s = .next (s.respond tag 0x25 .noSuch [])) ∧
    (∀ r, n.log.find? (fun r => decide (r.sequence = q ∧ r.state = .active)) = some r →
      let its (g : Grant) : Prop := g.source = .purchase ∧ g.product = r.product ∧ g.sequence = some q
      (s.clock.valid = false → exec c s = .next (s.respond tag 0x25 .noClock [])) ∧
      (s.clock.valid = true → (∀ g ∈ n.grants, ¬its g) → exec c s = .next (s.respond tag 0x25 .tooLate [])) ∧
      (∀ g, s.clock.valid = true →
        n.grants.find? (fun g => decide (g.source = .purchase ∧ g.product = r.product ∧ g.sequence = some q)) =
          some g →
        (g.start ≤ s.clock.now → exec c s = .next (s.respond tag 0x25 .tooLate [])) ∧
        (s.clock.now < g.start →
          let cancelled : Entitlement :=
            { n with
              log := n.log.map fun k =>
                if k.sequence = q ∧ k.state = .active then { k with state := .cancelled } else k
              spent := n.spent - r.price
              grants := n.grants.filter fun h =>
                decide ¬(h.source = .purchase ∧ h.product = r.product ∧ h.sequence = some q) }
          exec c s = .next (State.respond (State.rescan { s with entitlement := cancelled }) tag 0x25 .ok
            [.num 2 q, .num 2 (n.spent - r.price), .num 2 n.ceiling]))))

/-- A coverage rescan empties exactly the keyed halves whose product is not covered at N; the candidates, the
phases in use, the users and the counts stay (R90, R96). -/
def Obligations.RescanEmptiesUncoveredHalves : Prop :=
  ∀ (s : State) (k : Fin 16), s.rescan = { s with slots := s.rescan.slots } ∧
    (s.slots[k] = none → s.rescan.slots[k] = none) ∧
    (∀ r, s.slots[k] = some r → s.rescan.slots[k] = some
      { r with
        even := { r.even with key := r.even.key.filter fun key => s.covered key.product s.clock.now }
        odd := { r.odd with key := r.odd.key.filter fun key => s.covered key.product s.clock.now } }) ∧
    (∀ product time, s.covered product time = true ↔ product = 0 ∨
      ∃ g ∈ s.entitlement.grants, g.product = product ∧
        (s.clock.valid = true ∧ g.start ≤ time ∧ (∀ stop, g.stop = some stop → time < stop) ∨
          s.clock.valid = false ∧ g.start = 0 ∧ g.stop = none))

/-- An accepted UNLOCK sets the programme override, the period override of at most 240 minutes, or adds at most
1440 minutes to X up to 86,400, sets profile 0's failure count to 0, evaluates the lane or the profile's lanes, whose
gates then work out their states, and responds with the value set (R174 to R177). The three bytes that stand for
"unguided" in the response are THE MODEL'S CHOICE (log entry 4). -/
def Obligations.UnlockSetsItsOverride : Prop :=
  ∀ (tag pin : Word16) (scope target : Byte) (minutes : Word16) (s : State), s.portCReady = true →
    pin.toNat ≤ 9999 → (s.profiles[(0 : Fin 4)]).lockout = 0 →
    (s.profiles[(0 : Fin 4)]).pin = some pin.toNat →
    let c := Instr.unlock tag pin scope target minutes
    let opened := s.modProfile 0 fun r => { r with failures := 0 }
    let judged (l : Lane) (p : Profile) : Lane := { l with reasons := { l.reasons with
      rating := l.ratingHolds p, window := p.windowHolds s.clock, budget := p.reached } }
    let evaluated (l : Lane) : Prop := l.state ∈ [LaneState.acquiring, .stalled, .passing, .degraded]
    (∀ i : Fin 6, scope = 0 → i.val = target.toNat → i.val < 2 → (s.lanes[i]).state ≠ .idle →
      (s.lanes[i]).state ≠ .surveying →
      let override := match (s.lanes[i]).copy with
        | some g => ProgrammeOverride.event g.event
        | none => ProgrammeOverride.unguided
      let l : Lane := { s.lanes[i] with override := some override }
      ∃ u : State, exec c s = .next (u.respond tag 0x26 .ok [.override (some override)]) ∧
        u = { s with profiles := opened.profiles, lanes := u.lanes, arbiters := u.arbiters,
                     notices := u.notices } ∧
        (l.profile = none ∨ ¬evaluated l → u.lanes[i] = l) ∧
        (∀ p : Fin 4, l.profile = some p → evaluated l →
          u.lanes[i] = Lane.closeGate s.lanes[i] (judged l opened.profiles[p])) ∧
        (∀ j : Fin 6, j ≠ i → u.lanes[j] = s.lanes[j])) ∧
    (∀ p : Fin 4, scope = 1 ∨ scope = 2 → p.val = target.toNat → minutes ≠ 0 →
      let seconds := 60 * min minutes.toNat 240
      let extension := min ((s.profiles[p]).extension + 60 * min minutes.toNat 1440) 86400
      ∃ u : State, exec c s = .next (u.respond tag 0x26 .ok
          [if scope = 1 then .num 2 seconds else .num 4 extension]) ∧
        u = { s with profiles := u.profiles, lanes := u.lanes, arbiters := u.arbiters, notices := u.notices } ∧
        u.profiles = (opened.modProfile p fun r =>
          if scope = 1 then { r with period := seconds } else { r with extension := extension }).profiles ∧
        (∀ i : Fin 6, u.lanes[i] =
          if i.val < 2 ∧ (s.lanes[i]).profile = some p ∧ evaluated s.lanes[i] then
            Lane.closeGate s.lanes[i] (judged s.lanes[i] u.profiles[p])
          else s.lanes[i]))

/-! ### Prompts -/

/-- POLL PROMPT: RANGE above display 1; with no eligible kind OK and NONE, nothing changed; otherwise the
eligible kind of highest priority becomes IN_SERVICE on the top of the stack and is returned with its context
and the depth (R186 to R188). END PROMPT: RANGE, NO_SUCH for an empty stack or a kind that is not IN_SERVICE;
otherwise the kind leaves the stack, DISMISSED if it is a level kind whose cause lasts and ABSENT if not, it
becomes the lowest kind when auto-rotate is on and it stood at the top or the bottom, and a PROMPT notice
follows when the eligible set opens (R187 to R189). That NONE is the single byte 255, with no context and no depth
after it, is THE MODEL'S CHOICE (log entry 10). -/
def Obligations.PollAndEndPrompt : Prop :=
  ∀ (tag : Word16) (display kind : Byte) (s : State), s.portCReady = true →
    (1 < display.toNat →
      exec (.pollPrompt tag display) s = .next (s.respond tag 0x27 .range []) ∧
      exec (.endPrompt tag display kind) s = .next (s.respond tag 0x28 .range [])) ∧
    (7 < kind.toNat → kind ≠ 255 → exec (.endPrompt tag display kind) s = .next (s.respond tag 0x28 .range [])) ∧
    (∀ d : Fin 2, d.val = display.toNat →
      let a := s.arbiters[d]
      let isEligible (k : Fin 8) : Prop := (a.entries[k]).state = .pending ∧ (a.entries[k]).masked = false ∧
        ∀ j ∈ a.stack, (k.val + 7 - a.lowest.val) % 8 < (j.val + 7 - a.lowest.val) % 8
      ((∀ k, ¬isEligible k) → exec (.pollPrompt tag display) s = .next (s.respond tag 0x27 .ok [.num 1 255])) ∧
      (∀ k, isEligible k →
        (∀ j, isEligible j → (k.val + 7 - a.lowest.val) % 8 ≤ (j.val + 7 - a.lowest.val) % 8) →
        let polled : Arbiter := { a with
          entries := a.entries.set k.val { a.entries[k] with state := .inService } k.isLt
          stack := a.stack ++ [k] }
        exec (.pollPrompt tag display) s = .next (State.respond
          { s with arbiters := s.arbiters.set d.val polled d.isLt } tag 0x27 .ok
          (.num 1 k.val :: ((a.entries[k]).context.fields ++ [.num 1 (a.stack.length + 1)])))) ∧
      (kind = 255 ∧ a.stack = [] ∨
          (∃ k : Fin 8, k.val = kind.toNat ∧ (a.entries[k]).state ≠ .inService) →
        exec (.endPrompt tag display kind) s = .next (s.respond tag 0x28 .noSuch [])) ∧
      (∀ k : Fin 8,
        (kind = 255 ∧ a.stack.getLast? = some k ∨ k.val = kind.toNat ∧ (a.entries[k]).state = .inService) →
        let state := if k.val ≤ 5 ∧ (s.lanes[laneOfDisplay d]).causes k = true then PromptState.dismissed
          else .absent
        let rest := a.stack.filter fun j => decide (j ≠ k)
        let lowest := if a.autoRotate = true ∧ (a.stack.head? = some k ∨ a.stack.getLast? = some k) then k
          else a.lowest
        let ended : Arbiter := { a with
          entries := a.entries.set k.val { a.entries[k] with state := state } k.isLt
          stack := rest, lowest := lowest }
        ∃ u : State, exec (.endPrompt tag display kind) s = .next (u.respond tag 0x28 .ok
            [.num 1 k.val, .num 1 state.code, .num 1 lowest.val, .ones 1 (rest.getLast?.map fun j => j.val)]) ∧
          u = { s with arbiters := u.arbiters, notices := u.notices } ∧
          (∀ d', d' ≠ d → u.arbiters[d'] = s.arbiters[d']) ∧
          (¬(a.eligible = [] ∧ ended.eligible ≠ []) → u.arbiters[d] = ended ∧ u.notices = s.notices) ∧
          (a.eligible = [] → ended.eligible ≠ [] → Notice.prompt d ∈ u.notices ∧
            u.arbiters[d] = { ended with report := { a.report with eligible := true } })))

/-- MASK PROMPT sets the eight masked flags and leaves states, contexts and stack alone, with a PROMPT notice
when the eligible set opens (R190). ORDER PROMPT: RANGE, BUSY while the stack is not empty, and otherwise the
lowest kind and the auto-rotate flag take the values given (R191, R210). -/
def Obligations.MaskAndOrderPrompt : Prop :=
  ∀ (tag : Word16) (display masked lowest rotate : Byte) (s : State), s.portCReady = true →
    (1 < display.toNat → exec (.maskPrompt tag display masked) s = .next (s.respond tag 0x29 .range [])) ∧
    (1 < display.toNat ∨ 7 < lowest.toNat ∨ 1 < rotate.toNat →
      exec (.orderPrompt tag display lowest rotate) s = .next (s.respond tag 0x2A .range [])) ∧
    (∀ d : Fin 2, d.val = display.toNat →
      let a := s.arbiters[d]
      (∃ (u : State) (after : Arbiter),
        exec (.maskPrompt tag display masked) s = .next (u.respond tag 0x29 .ok [.num 1 masked.toNat]) ∧
        u = { s with arbiters := u.arbiters, notices := u.notices } ∧
        (∀ d', d' ≠ d → u.arbiters[d'] = s.arbiters[d']) ∧
        after = { a with entries := after.entries } ∧
        (∀ k : Fin 8, after.entries[k] = { a.entries[k] with masked := masked.getLsbD k.val }) ∧
        (¬(a.eligible = [] ∧ after.eligible ≠ []) → u.arbiters[d] = after ∧ u.notices = s.notices) ∧
        (a.eligible = [] → after.eligible ≠ [] → Notice.prompt d ∈ u.notices ∧
          u.arbiters[d] = { after with report := { a.report with eligible := true } })) ∧
      (∀ k : Fin 8, k.val = lowest.toNat → rotate.toNat ≤ 1 →
        (a.stack ≠ [] → exec (.orderPrompt tag display lowest rotate) s = .next (s.respond tag 0x2A .busy [])) ∧
        (a.stack = [] → exec (.orderPrompt tag display lowest rotate) s = .next (State.respond
          { s with arbiters := s.arbiters.set d.val { a with lowest := k, autoRotate := rotate == 1 } d.isLt }
          tag 0x2A .ok [.num 1 k.val, .num 1 rotate.toNat]))))

/-- The level kinds. Kinds 0 to 5 have their causes, and their context, in the display's viewing lane; kinds 6 and 7
have none (R180, R181). At the close of an event a level kind is raised when its cause has begun or its context differs
from what it was before, and cleared when its cause has ended; otherwise its entry stays (R182). A raise makes it
PENDING with the new context, but an IN_SERVICE kind, and a DISMISSED one for the same lane, service and event, take the
context alone; a new context of an IN_SERVICE kind is reported CONTEXT (R183). A clear makes it ABSENT, and takes an
IN_SERVICE kind off the stack, reported WITHDRAWN with the kind (R184). An eligible set that opens is reported ELIGIBLE
(R187). A PROMPT notice is raised for each report and for nothing else (R193). An accepted TUNE or UNTUNE of a viewing
lane withdraws every level kind of its display, whatever its state, and raises the kinds whose causes then stand; the
edge kinds stay (R185). -/
def Obligations.LevelPromptsFollowTheirCauses : Prop :=
  (∀ (l : Lane) (i : Fin 6) (k : Fin 8),
    let sold := ∃ g, l.copy = some g ∧ 0 < g.price
    (l.causes k = true ↔
      (k = 0 ∧ l.reasons.rating = true) ∨ (k = 1 ∧ l.reasons.budget = true) ∨
      (k = 2 ∧ l.reasons.window = true) ∨ (k = 3 ∧ l.reasons.access = true ∧ sold) ∨
      (k = 4 ∧ l.reasons.access = true ∧ ¬sold) ∨ (k = 5 ∧ l.state ∈ [LaneState.stalled, .lost, .degraded])) ∧
    l.context i =
      { lane := some i.val, service := l.service, event := l.copy.map fun g => g.event
        profile := l.profile.map fun p => p.val, rating := l.copy.map fun g => g.rating
        price := l.copy.map fun g => g.price, timer := none }) ∧
  (∀ (e : Ev) (d : Fin 2),
    let i := laneOfDisplay d
    let a := e.now.arbiters[d]
    let u := e.close
    let b := u.arbiters[d]
    let old := e.before.lanes[i]
    let new := u.lanes[i]
    let held (k : Fin 8) : Prop := d ∉ e.withdrawn ∧ old.causes k = true
    let raised (k : Fin 8) : Prop := new.causes k = true ∧ ¬(held k ∧ old.context i = new.context i)
    let cleared (k : Fin 8) : Prop := new.causes k = false ∧ held k
    let ends (k : Fin 8) : Prop := cleared k ∧ (a.entries[k]).state = .inService
    let redrawn (k : Fin 8) : Prop := raised k ∧ (a.entries[k]).state = .inService ∧
      (a.entries[k]).context ≠ new.context i
    let opens : Prop := (e.before.arbiters[d]).eligible = [] ∧ b.eligible ≠ []
    (∀ k : Fin 8,
      let x := a.entries[k]
      let c := new.context i
      let keeps := x.state = .inService ∨ x.state = .dismissed ∧ c.lane = x.context.lane ∧
        c.service = x.context.service ∧ c.event = x.context.event
      (¬raised k → ¬cleared k → b.entries[k] = x) ∧
      (raised k → keeps → b.entries[k] = { x with context := c }) ∧
      (raised k → ¬keeps → b.entries[k] = { x with state := .pending, context := c }) ∧
      (cleared k → b.entries[k] = { x with state := .absent })) ∧
    (∃ stays : Fin 8 → Bool, (∀ k, stays k = true ↔ ¬ends k) ∧ b.stack = a.stack.filter stays) ∧
    b.lowest = a.lowest ∧ b.autoRotate = a.autoRotate ∧
    (b.report.eligible = true ↔ a.report.eligible = true ∨ opens) ∧
    (b.report.withdrawn = true ↔ a.report.withdrawn = true ∨ ∃ k, ends k) ∧
    (b.report.context = true ↔ a.report.context = true ∨ ∃ k, redrawn k) ∧
    (∀ k, k ∈ b.report.kinds ↔ k ∈ a.report.kinds ∨ ends k) ∧
    (Notice.prompt d ∈ u.notices ↔ Notice.prompt d ∈ e.now.notices ∨ Notice.prompt d ∈ e.raised ∨ opens ∨
      (∃ k, ends k) ∨ ∃ k, redrawn k)) ∧
  ∀ (tag : Word16) (lane : Byte) (service : Word16) (profile : Byte) (s u : State) (d : Fin 2),
    s.portCReady = true → d.val = lane.toNat →
    (exec (.tune tag lane service profile) s = .next (u.respond tag 0x20 .ok []) ∨
      (s.lanes[laneOfDisplay d]).state ≠ .idle ∧ exec (.untune tag lane) s = .next (u.respond tag 0x21 .ok [])) →
    let a := s.arbiters[d]
    let b := u.arbiters[d]
    let new := u.lanes[laneOfDisplay d]
    (∀ k : Fin 8,
      (5 < k.val → b.entries[k] = a.entries[k]) ∧
      (k.val ≤ 5 → new.causes k = true →
        b.entries[k] = { a.entries[k] with state := .pending, context := new.context (laneOfDisplay d) }) ∧
      (k.val ≤ 5 → new.causes k = false → b.entries[k] = { a.entries[k] with state := .absent }) ∧
      (k.val ≤ 5 → (a.entries[k]).state = .inService →
        Notice.prompt d ∈ u.notices ∧ b.report.withdrawn = true ∧ k ∈ b.report.kinds)) ∧
    b.stack = a.stack.filter fun k => decide ¬(k.val ≤ 5 ∧ (a.entries[k]).state = .inService)

/-! ### Notices and packets of the part -/

/-- What a notice carries and where it stands. The kinds have the values 1 to 8, each with its subject (R205). The
snapshot of each kind holds, field by field: LANE the record of its lane (R43), SURVEY the outcomes of its result table
(R74), PROMPT its report set, kinds, stack and the kinds at the top and next eligible (R193), TIMER the timer with the
weekday, hour and minute of its last firing (R157), CLOCK what READ CLOCK returns (R133), GRANT the entitlement status
(R116), SECTION the section record (R205) and PROFILE what READ PROFILE returns with the two viewing lanes (R178). The
notices first raised within one event enter the pending list behind those already there, in rising kind and, within a
kind, rising subject, and none twice (R203). The codes of the choices, the place of "none" among them, and the bytes of
a kind or a context that is none are THE MODEL'S CHOICE where R209 leaves them open (log entry 10). -/
def Obligations.NoticeSnapshotsAndOrder : Prop :=
  (∀ (i : Fin 6) (d : Fin 2) (t : Fin 24) (k : SectionKind) (p : Fin 4),
    ([Notice.lane i, .survey i, .prompt d, .timer t, .clock, .grant, .sections k, .profile p].map fun n =>
      (n.kindCode, n.subject)) =
    [(1, i.val), (2, i.val), (3, d.val), (4, t.val), (5, 0), (6, 0), (7, k.code), (8, p.val)]) ∧
  (∀ (s : State) (i : Fin 6),
    let l := s.lanes[i]
    let t := s.surveys[i]
    s.snapshot (.lane i) =
      [.num 1 i.val, .num 1 l.state.code, .ones 1 (l.step.map AcquireStep.code), .opt 2 l.service,
        .ones 1 (l.input.map inputCode), .ones 1 (l.profile.map fun p => p.val), .num 1 l.health,
        .num 1 l.ceiling, .opt 1 l.signalTick, .opt 1 l.keyTick, .opt 1 l.entryTick, .num 2 l.ticks,
        .num 2 l.errors, .num 2 l.overruns, .num 1 l.gate.code, .num 1 l.reasons.toByte, .ones 2 l.autoStop,
        .ones 1 (l.lastChange.map LaneChange.code), .ones 1 (l.lastRefusal.map InstallRefusal.code)] ∧
    s.snapshot (.survey i) = [.num 1 i.val, .num 1 t.status.code, .num 1 t.records.length] ++
      t.records.map fun r => .ones 1 (r.outcome.map SurveyOutcome.code)) ∧
  (∀ (s : State) (d : Fin 2),
    let a := s.arbiters[d]
    let context (c : PromptContext) : List Field :=
      [.ones 1 c.lane, .opt 2 c.service, .opt 2 c.event, .ones 1 c.profile, .ones 1 c.rating, .opt 2 c.price,
        .ones 1 c.timer]
    let named (k : Option (Fin 8)) : List Field := match k with
      | some k => .num 1 k.val :: context (a.entries[k]).context
      | none => .num 1 255 :: context ⟨none, none, none, none, none, none, none⟩
    let bits (x y z : Bool) : Nat := x.toNat + 2 * y.toNat + 4 * z.toNat
    s.snapshot (.prompt d) =
      [.num 1 d.val, .num 1 (bits a.report.eligible a.report.withdrawn a.report.context),
        .num 1 (setByte a.report.kinds), .num 1 a.lowest.val, flag a.autoRotate] ++
      (allKinds.flatMap fun k => [.num 1 (a.entries[k]).state.code, flag (a.entries[k]).masked]) ++
      (.num 1 a.stack.length :: a.stack.map fun k => Field.num 1 k.val) ++
      List.replicate (8 - a.stack.length) (.num 1 255) ++ named a.stack.getLast? ++ named a.eligible.head?) ∧
  (∀ (s : State) (t : Fin 24),
    let r := s.timers[t]
    s.snapshot (.timer t) =
      [.num 1 t.val, flag r.isSet, .num 1 (r.weekday.getD 255), .num 1 (r.hour.getD 255),
        .num 1 (r.minute.getD 255), .num 1 r.action.code, .num 1 r.display, .num 1 r.lane, .num 2 r.service,
        .num 2 r.duration, flag r.repeats, .ones 4 r.lastFired, .ones 1 (r.lastOutcome.map TimerOutcome.code),
        .ones 1 (r.lastCause.map TimerCause.code), .ones 1 (r.lastFired.map fun j => j / 1440 % 7),
        .ones 1 (r.lastFired.map fun j => j % 1440 / 60), .ones 1 (r.lastFired.map fun j => j % 60)]) ∧
  (∀ (tag : Word16) (s : State) (p : Fin 4), s.portCReady = true →
    let lane (i : Fin 6) : List Field :=
      [flag (decide ((s.lanes[i]).profile = some p ∧
          (s.lanes[i]).state ∈ [LaneState.acquiring, .stalled, .passing, .degraded])),
        .num 1 (16 * (s.lanes[i]).reasons.rating.toNat + 32 * (s.lanes[i]).reasons.window.toNat +
          64 * (s.lanes[i]).reasons.budget.toNat)]
    ∃ profile : List Field,
      exec (.readProfile tag (BitVec.ofNat 8 p.val)) s = .next (s.respond tag 0x48 .ok profile) ∧
      s.snapshot (.profile p) = profile ++ lane 0 ++ lane 1 ∧
      exec (.readClock tag) s = .next (s.respond tag 0x47 .ok (s.snapshot .clock))) ∧
  (∀ (s : State) (k : SectionKind),
    let n := s.entitlement
    let r := s.sectionRecord k
    s.snapshot .grant =
      [.num 1 n.grants.length, .num 1 n.log.length, .num 2 n.nextSequence, .num 2 n.spent, .num 2 n.ceiling,
        .num 2 n.applied, .num 1 n.malformed, .num 1 n.dropped, .opt 2 n.lastDropped,
        .ones 1 (n.lastChange.map GrantChange.code)] ∧
    s.snapshot (.sections k) =
      [.num 2 r.accepted, .num 2 r.discarded, .ones 1 (r.lastCause.map DiscardCause.code),
        .ones 1 (r.lastPair.map fun q => inputCode q.1), .ones 2 (r.lastPair.map fun q => q.2)]) ∧
  ∀ e : Ev, ∃ new : List Notice, e.close.notices = e.now.notices ++ new ∧
    (new.Pairwise fun x y => x.kindCode < y.kindCode ∨ x.kindCode = y.kindCode ∧ x.subject < y.subject) ∧
    (∀ x ∈ new, x ∉ e.now.notices ∧ (x ∈ e.raised ∨ ∃ d, x = .prompt d)) ∧
    ∀ x ∈ e.raised, x ∈ e.now.notices ∨ x ∈ new

/-! ### Reading -/

/-- READ LANE returns every field of the lane record in the order of its table, then the gate state and the
reason set, is refused RANGE above lane 5, and changes nothing (R44). READ GRANT returns the status record and the
grant at its index, if there is one; READ LOG the log count, next sequence, spent, the ceiling and the record at its
index, if there is one. An index above 47 or 31 is refused RANGE. Neither changes anything (R117, R118). The codes of
the choices and of their absence, and that a result without a record ends after its status fields, are THE MODEL'S
CHOICE where R209 leaves them open (log entry 10); so is the width of "unguided" (log entry 4). -/
def Obligations.ReadLaneGrantAndLog : Prop :=
  (∀ (tag : Word16) (lane : Byte) (s : State), s.portCReady = true →
    (5 < lane.toNat → exec (.readLane tag lane) s = .next (s.respond tag 0x40 .range [])) ∧
    (∀ i : Fin 6, i.val = lane.toNat →
      let l := s.lanes[i]
      let record : List Field :=
        [.num 1 l.state.code, .ones 1 (l.step.map AcquireStep.code), .opt 2 l.service,
          .ones 1 (l.input.map inputCode), .ones 1 (l.profile.map fun p => p.val), .num 1 l.ceiling,
          .num 1 l.dwell, .num 1 l.silenceLimit, flag l.holdAtEnd, .num 1 l.health, .num 2 l.ticks,
          .opt 1 l.signalTick, .opt 1 l.keyTick, .opt 1 l.entryTick, .num 1 l.silence, .num 2 l.errors,
          .num 2 l.overruns, .ones 2 l.autoStop, .override l.override, .opt 2 (l.copy.map fun g => g.event),
          .ones 1 (l.lastChange.map LaneChange.code), .ones 1 (l.lastRefusal.map InstallRefusal.code),
          .num 1 l.gate.code, .num 1 l.reasons.toByte]
      exec (.readLane tag lane) s = .next (s.respond tag 0x40 .ok record))) ∧
  ∀ (tag : Word16) (index : Byte) (s : State), s.portCReady = true →
    let n := s.entitlement
    let status : List Field :=
      [.num 1 n.grants.length, .num 1 n.log.length, .num 2 n.nextSequence, .num 2 n.spent, .num 2 n.ceiling,
        .num 2 n.applied, .num 1 n.malformed, .num 1 n.dropped, .opt 2 n.lastDropped,
        .ones 1 (n.lastChange.map GrantChange.code)]
    let log : List Field := [.num 1 n.log.length, .num 2 n.nextSequence, .num 2 n.spent, .num 2 n.ceiling]
    (47 < index.toNat → exec (.readGrant tag index) s = .next (s.respond tag 0x43 .range [])) ∧
    (index.toNat ≤ 47 →
      (∀ g, n.grants[index.toNat]? = some g →
        let grant : List Field :=
          [.num 2 g.product, .num 1 g.source.code, .num 4 g.start, .opt 4 g.stop, .opt 2 g.sequence]
        exec (.readGrant tag index) s = .next (s.respond tag 0x43 .ok (status ++ grant))) ∧
      (n.grants.length ≤ index.toNat →
        exec (.readGrant tag index) s = .next (s.respond tag 0x43 .ok status))) ∧
    (31 < index.toNat → exec (.readLog tag index) s = .next (s.respond tag 0x44 .range [])) ∧
    (index.toNat ≤ 31 →
      (∀ r, n.log[index.toNat]? = some r →
        let record : List Field :=
          [.num 2 r.sequence, .num 2 r.event, .num 2 r.service, .num 2 r.product, .num 2 r.price, .num 4 r.time,
            .num 1 r.profile.val, .num 1 r.state.code]
        exec (.readLog tag index) s = .next (s.respond tag 0x44 .ok (log ++ record))) ∧
      (n.log.length ≤ index.toNat → exec (.readLog tag index) s = .next (s.respond tag 0x44 .ok log)))

/-- READ SLOT, READ GUIDE, READ SURVEY, READ CLOCK and READ PROFILE each return their record field by field, refuse
the numbers that their rules name, and change nothing (R74, R92, R134, R147, R161). The local fields of the clock are
worked out from N, the zone and the window, held at 0 and at the largest second (R129, R130). The mark of a free slot
is a free value (log entry 5); the codes that R209 leaves open, and the pending step's age as a field of its own, are
THE MODEL'S CHOICE (log entry 10). -/
def Obligations.OtherReadsChangeNothing : Prop :=
  ∀ (tag : Word16) (slot : Byte) (service index : Word16) (lane turn profile : Byte) (s : State),
    s.portCReady = true →
    (15 < slot.toNat → exec (.readSlot tag slot) s = .next (s.respond tag 0x42 .range [])) ∧
    (∀ k : Fin 16, k.val = slot.toNat →
      (s.slots[k] = none → exec (.readSlot tag slot) s = .next (s.respond tag 0x42 .ok [.freeSlot])) ∧
      (∀ r, s.slots[k] = some r →
        let head : List Field :=
          [.num 1 k.val, .num 1 (inputCode r.input), .num 2 r.stream, .num 1 (setByte r.users),
            .num 1 (phaseCode r.phase), .num 1 r.refused, .num 1 r.rejected, .num 1 r.ignored]
        let half (h : Half) : List Field :=
          [.opt 2 (h.key.map fun key => key.product), .opt 2 (h.candidate.map fun c => c.product),
            .num 1 ((h.candidate.map fun c => c.agreement).getD 0)]
        exec (.readSlot tag slot) s = .next (s.respond tag 0x42 .ok (head ++ half r.even ++ half r.odd)))) ∧
    (service = 0 ∨ 383 < index.toNat →
      exec (.readGuide tag service index) s = .next (s.respond tag 0x45 .range [])) ∧
    (service ≠ 0 → index.toNat ≤ 383 →
      let held := s.guide.entries.filter fun g => decide (g.service = service.toNat)
      let status : List Field :=
        [.num 2 s.guide.entries.length, .num 2 s.guide.taken, .num 1 s.guide.malformed, .num 2 s.guide.overlap,
          .num 2 s.guide.replaced, .num 2 s.guide.stored, .num 2 s.guide.evicted, .num 2 s.guide.refused,
          .num 2 held.length]
      let entry (g : GuideEntry) : List Field :=
        [.num 2 g.service, .num 2 g.event, .num 4 g.start, .num 2 g.duration, .num 1 g.rating, .num 2 g.product,
          .num 2 g.price, .num 4 (min (g.start + 60 * g.duration) 4294967295)]
      (∀ g, held[index.toNat]? = some g →
        exec (.readGuide tag service index) s = .next (s.respond tag 0x45 .ok (status ++ entry g))) ∧
      (held.length ≤ index.toNat →
        exec (.readGuide tag service index) s = .next (s.respond tag 0x45 .ok status))) ∧
    (5 < lane.toNat ∨ turn = 0 ∨ 16 < turn.toNat →
      exec (.readSurvey tag lane turn) s = .next (s.respond tag 0x46 .range [])) ∧
    (∀ i : Fin 6, i.val = lane.toNat → turn ≠ 0 → turn.toNat ≤ 16 →
      ((s.surveys[i]).status = .none ∨ (s.surveys[i]).records.length < turn.toNat →
        exec (.readSurvey tag lane turn) s = .next (s.respond tag 0x46 .noSuch [])) ∧
      (∀ r, (s.surveys[i]).status ≠ .none → (s.surveys[i]).records[turn.toNat - 1]? = some r →
        let fields : List Field :=
          [.num 1 (s.surveys[i]).status.code, .num 1 (s.surveys[i]).records.length, .ones 1 (s.surveys[i]).position,
            .num 1 turn.toNat, .num 2 r.service, .ones 1 (r.input.map inputCode),
            .ones 1 (r.outcome.map SurveyOutcome.code), .ones 1 (r.refusal.map InstallRefusal.code),
            .num 2 r.leadPackets, flag r.leadSaturated, .num 1 r.badEvents, flag r.scrambledSeen,
            flag r.keyObtained, .opt 1 r.firstEntryTick, .opt 1 r.lockTick]
        exec (.readSurvey tag lane turn) s = .next (s.respond tag 0x46 .ok fields))) ∧
    (let c := s.clock
      let window : Bool := decide (c.dstStart < c.dstEnd ∧ c.dstStart ≤ c.now ∧ c.now < c.dstEnd)
      let raw : Int := c.now + 60 * c.zone + if window = true then 60 * (c.dstDelta : Int) else 0
      let l : Nat := (max 0 (min raw 4294967295)).toNat
      let onlyValid (width value : Nat) : Field := .ones width (if c.valid = true then some value else none)
      let fields : List Field :=
        [flag c.valid, .num 4 (if c.valid = true then c.now else 0), .int 2 c.zone, .num 4 c.dstStart,
          .num 4 c.dstEnd, .num 2 c.dstDelta, flag window, .opt 4 (c.pendingStep.map fun p => p.value),
          .ones 1 (c.pendingStep.map fun p => p.age), onlyValid 2 (l / 86400), onlyValid 1 (l % 86400 / 3600),
          onlyValid 1 (l % 3600 / 60), onlyValid 1 (l / 86400 % 7), onlyValid 4 (l / 60), .num 2 c.accepted,
          .num 1 c.malformed, .num 2 c.steps, .num 1 c.unconfirmed, .ones 1 (c.lastChange.map ClockChange.code),
          .optInt 5 c.lastStep]
      exec (.readClock tag) s = .next (s.respond tag 0x47 .ok fields)) ∧
    (3 < profile.toNat → exec (.readProfile tag profile) s = .next (s.respond tag 0x48 .range [])) ∧
    (∀ p : Fin 4, p.val = profile.toNat →
      let r := s.profiles[p]
      let limit := 60 * r.budget + r.extension
      let fields : List Field :=
        [flag r.pin.isSome, flag r.purchaseAllowed, .num 1 r.ceiling, .num 1 r.unrated.code, .num 2 r.windowStart,
          .num 2 r.windowEnd, .num 2 r.budget, .num 4 r.used, .num 4 r.extension, .ones 2 r.recordedDay,
          .num 1 r.failures, .num 2 r.lockout, .num 2 r.period, .ones 1 (r.lastChange.map ProfileChange.code),
          .ones 4 (if r.budget < 1440 then some limit else none),
          flag (decide (r.budget < 1440 ∧ limit ≤ r.used))]
      exec (.readProfile tag profile) s = .next (s.respond tag 0x48 .ok fields))

/-- RESTART takes every lane to IDLE with its options kept, empties the stream map, the section records, the
slots, the surveys, the arbiters and the pending list, returns last granted to 5, answers OK, and keeps all
else: the return queue, the ports, the unit address, the clock, the tables and the profiles (R207, R18, R46,
R63, R75, R94, R196). -/
def Obligations.RestartClearsAndKeeps : Prop :=
  ∀ (tag : Word16) (s : State), s.portCReady = true →
    exec (.restart tag) s = .next (State.respond
      { s with
        map := [], keySections := ⟨0, 0, none, none⟩, grantSections := ⟨0, 0, none, none⟩
        timeSections := ⟨0, 0, none, none⟩, guideSections := ⟨0, 0, none, none⟩
        lanes := Vector.ofFn fun i => { (State.reset.lanes[i] : Lane) with
          ceiling := (s.lanes[i]).ceiling, dwell := (s.lanes[i]).dwell
          silenceLimit := (s.lanes[i]).silenceLimit, holdAtEnd := (s.lanes[i]).holdAtEnd }
        surveys := Vector.replicate 6 ⟨.none, none, []⟩, slots := Vector.replicate 16 none
        arbiters := State.reset.arbiters, notices := [], lastGranted := 3 } tag 0x7F .ok [])

/-! ### Packets on the cable inputs -/

/-- What becomes of a cable packet (R1, R2, R6, R11, R15). A bad sync value on an OUT_OF_SYNC input changes
nothing; on an IN_SYNC input it takes the input OUT_OF_SYNC, makes every last count of the input absent, and
discards every partial section there with cause SYNC. A good packet on stream 8191 or on a pair that the map
does not hold only brings the input into sync. A packet without the start flag on an IDLE MESSAGE entry only
updates the continuity record of its pair. -/
def Obligations.CablePacketDispositions : Prop :=
  ∀ (n : Input) (p : Packet) (s : State), s.resetHeld = false →
    let synced := s.modInput n fun r => { r with sync := .inSync }
    (packetByte p 0 ≠ 0x47#8 → ∀ errorLine : Bool,
      ((s.input n).sync = .outOfSync → exec (.cablePacket n errorLine p) s = .next s) ∧
      ((s.input n).sync = .inSync → ∃ u : State, exec (.cablePacket n errorLine p) s = .next u ∧
        u = { s.modInput n (fun r => { r with sync := .outOfSync }) with
              map := u.map, keySections := u.keySections, grantSections := u.grantSections,
              timeSections := u.timeSections, guideSections := u.guideSections, notices := u.notices,
              draws := u.draws } ∧
        u.map = s.map.map (fun en =>
          if en.input = n then
            { en with lastCount := none, duplicateMark := false,
                      role := match en.role with
                        | .message route _ => .message route .idle
                        | .component lanes slot => .component lanes slot }
          else en) ∧
        ∀ k : SectionKind,
          let gone := s.map.filter fun en => decide (en.input = n ∧ en.route? = some k ∧ en.isAssembling = true)
          (gone = [] → u.sectionRecord k = s.sectionRecord k) ∧
          (gone ≠ [] → (u.sectionRecord k).lastCause = some .sync ∧ Notice.sections k ∈ u.notices ∧
            (u.sectionRecord k).discarded = min ((s.sectionRecord k).discarded + gone.length)
              (max 65535 (s.sectionRecord k).discarded)))) ∧
    (packetByte p 0 = 0x47#8 → ∀ errorLine : Bool,
      streamNumber p = 8191 ∨ s.entry? n (streamNumber p) = none →
      exec (.cablePacket n errorLine p) s = .next synced) ∧
    (∀ (en : MapEntry) (route : SectionKind), packetByte p 0 = 0x47#8 → errorFlag p = false →
      wirePhase p ≠ .reserved → startFlag p = false → streamNumber p ≠ 8191 →
      s.entry? n (streamNumber p) = some en → en.role = .message route .idle →
      exec (.cablePacket n false p) s = .next (synced.modEntry n (streamNumber p) fun q =>
        { q with lastCount := (en.continuity p).2.1, duplicateMark := (en.continuity p).2.2 }))

/-- The continuity check, row by row (R11), and the payload of a packet (R211): from byte 5 + L with an
extension and from byte 4 without, L taken as at most 183, both flags clear at an L of 0. -/
def Obligations.ContinuityTable : Prop :=
  ∀ (en : MapEntry) (p : Packet),
    let k := sequenceCount p
    (hasPayload p = false → en.continuity p = (.uncounted, en.lastCount, en.duplicateMark)) ∧
    (hasPayload p = true →
      (en.lastCount = none ∨ discontinuityFlag p = true → en.continuity p = (.accepted, some k, false)) ∧
      (∀ last, en.lastCount = some last → discontinuityFlag p = false →
        (k = last + 1 → en.continuity p = (.accepted, some k, false)) ∧
        (k = last → en.duplicateMark = false → en.continuity p = (.duplicate, some last, true)) ∧
        (k = last → en.duplicateMark = true → en.continuity p = (.error, some last, true)) ∧
        (k ≠ last + 1 → k ≠ last → en.continuity p = (.error, some k, false)))) ∧
    (payloadFlag p = true →
      payload p = p.toList.drop (if extensionFlag p = true then 5 + min (packetByte p 4).toNat 183 else 4)) ∧
    (payloadFlag p = true → extensionFlag p = false → (payload p).length = 184) ∧
    (payloadFlag p = false → payload p = []) ∧
    (extensionFlag p = false ∨ packetByte p 4 = 0 → discontinuityFlag p = false ∧ entryPointFlag p = false)

/-- An undamaged packet at a MESSAGE entry (R11, R13 to R15). A duplicate, and a packet without a payload, gathers
nothing; a continuity error discards a partial section with cause CONTINUITY; a scrambled packet gathers nothing. A
CLEAR packet with the start flag discards a section still held with cause RESTARTED and begins a new one, or discards it
with cause LENGTH when its length field is not whole or not from 4 to 1021; without the flag it adds to the section held
and is nothing to an IDLE entry. A whole section leaves the entry IDLE; it is discarded with cause CHECK when its check
fails and with cause KIND when its kind is not that of the route. -/
def Obligations.SectionAssembly : Prop :=
  ∀ (n : Input) (p : Packet) (s : State) (en : MapEntry) (route : SectionKind) (assembly : Assembly),
    s.resetHeld = false → s.MapSound → packetByte p 0 = 0x47#8 → errorFlag p = false → wirePhase p ≠ .reserved →
    streamNumber p ≠ 8191 → s.entry? n (streamNumber p) = some en → en.role = .message route assembly →
    let outcome := (en.continuity p).1
    let ends (causes : List DiscardCause) (left : Assembly) : Prop := exec (.cablePacket n false p) s =
      .next ((s.sectionLeft n en route p causes left).noteIf (!causes.isEmpty) (.sections route))
    let lost := if outcome = .error ∧ en.isAssembling = true then [DiscardCause.continuity] else []
    let left := if outcome = .error then Assembly.idle else assembly
    (outcome = .duplicate ∨ outcome = .uncounted → ends [] assembly) ∧
    (outcome = .accepted ∨ outcome = .error →
      (wirePhase p ≠ .clear ∨ startFlag p = false ∧ left = .idle → ends lost left) ∧
      (∀ held expected, wirePhase p = .clear → startFlag p = false → left = .assembling held expected →
        let gathered := held ++ (payload p).take (expected - held.length)
        gathered.length ≠ expected → ends lost (.assembling gathered expected)) ∧
      (wirePhase p = .clear → startFlag p = true →
        let before : List DiscardCause := lost ++ if left = .idle then [] else [DiscardCause.restarted]
        ((payload p).length < 3 → ends (before ++ [DiscardCause.length]) .idle) ∧
        (∀ kind hi lo rest, payload p = kind :: hi :: lo :: rest →
          let length := (word16 hi lo).toNat
          (length < 4 ∨ 1021 < length → ends (before ++ [DiscardCause.length]) .idle) ∧
          (4 ≤ length → length ≤ 1021 → (payload p).length < 3 + length →
            ends before (.assembling (payload p) (3 + length)))))) ∧
    (∀ causes bytes, en.Completes p causes bytes →
      (crc bytes ≠ 0 → ends (causes ++ [DiscardCause.check]) .idle) ∧
      (crc bytes = 0 → (bytes.headD 0).toNat ≠ route.code → ends (causes ++ [DiscardCause.kind]) .idle))

/-- A packet that completes a section whose check passes and whose kind is that of the route: the entry is IDLE, the
accepted count of the route rises, and the body, all bytes between header and check, goes to the block that owns the
kind: a KEY section to the slot of its input and stream, a GRANT section to the entitlement block, a TIME section to
the clock and a GUIDE section to the guide, within the same event (R14, R16, R79, R100, R123, R138). -/
def Obligations.CompletedSectionReachesItsOwner : Prop :=
  ∀ (n : Input) (p : Packet) (s : State) (en : MapEntry) (route : SectionKind) (causes : List DiscardCause)
    (bytes : List Byte),
    s.resetHeld = false → s.MapSound → packetByte p 0 = 0x47#8 → errorFlag p = false → streamNumber p ≠ 8191 →
    s.entry? n (streamNumber p) = some en → en.route? = some route → en.Completes p causes bytes →
    crc bytes = 0 → (bytes.headD 0).toNat = route.code →
    let c := Instr.cablePacket n false p
    let body := (bytes.drop 3).take (bytes.length - 7)
    let ready := (s.sectionLeft n en route p causes .idle).modSectionRecord route fun r =>
      { r with accepted := raise 65535 r.accepted }
    let e : Ev := { before := s, now := ready, raised := causes.map fun _ => .sections route, withdrawn := [] }
    (∀ k : Fin 16, route = .key → s.slotFor n (streamNumber p) = some k →
      exec c s = .next ((ready.takeKeys k body).noteIf (!causes.isEmpty) (.sections .key))) ∧
    (route = .key → s.slotFor n (streamNumber p) = none →
      exec c s = .next (ready.noteIf (!causes.isEmpty) (.sections .key))) ∧
    (route = .grant → exec c s = .next (e.takeGrant body).close) ∧
    (route = .time → exec c s = .next (e.takeTime body).close) ∧
    (route = .guide → exec c s = .next (e.takeGuide body).close)

/-- An undamaged packet at a COMPONENT entry. Its slot sets the phase in use and descrambles or discards it (R85 to
R87); each lane of the destination set then takes, in the order of R12 and R89, an error report for a continuity error
(R31), the lead arrival if the entry is its lead entry (R26), a good event for an accepted packet that was delivered,
ACCESS as the slot sets or clears it for its users, and the packet itself at its gate, which works out its state first
(R6, R49 to R51). A DUPLICATE is a lead arrival and nothing more (R11). A SURVEYING lane records what it takes (R68,
R69), and a LANE notice is raised exactly where a lane's taking calls for one. `Lane.receive` puts the parts of a lane
in that order, and LaneReportsAndGateDisposal says what each part does. -/
def Obligations.ComponentPacketReachesItsLanes : Prop :=
  ∀ (n : Input) (p : Packet) (s : State) (en : MapEntry) (destinations : List (Fin 6)) (slot : Option (Fin 16)),
    s.resetHeld = false → packetByte p 0 = 0x47#8 → errorFlag p = false → wirePhase p ≠ .reserved →
    streamNumber p ≠ 8191 → s.entry? n (streamNumber p) = some en → en.role = .component destinations slot →
    destinations.Nodup →
    let outcome := (en.continuity p).1
    let used := slot.bind fun k => (s.slots[k]).map fun r => (k, r.treat p)
    let packet := if outcome = .duplicate then none else match used with
      | some (_, verdict) => verdict.packet
      | none => some p
    let access (i : Fin 6) := if outcome = .duplicate then none else used.bind fun u =>
      if i ∈ u.2.slot.users then u.2.access else none
    let brought (i : Fin 6) (leads : Bool) : PacketAtLane :=
      { error := outcome == .error
        lead := if leads then some
          { outcome := outcome.lead, delivered := packet.isSome,
            descrambled := outcome != .duplicate && used.any fun u => u.2.descrambled
            scrambledService := slot.isSome, phase := wirePhase p, entryPoint := entryPointFlag p } else none
        good := outcome == .accepted && packet.isSome
        access := access i
        offered := packet
        release := outcome == .accepted && entryPointFlag p && leads }
    ∃ u : State, exec (.cablePacket n false p) s = .next u ∧
      u = { s with inputA := u.inputA, inputB := u.inputB, map := u.map, slots := u.slots, lanes := u.lanes,
                   surveys := u.surveys, arbiters := u.arbiters, notices := u.notices } ∧
      (u.input n).sync = .inSync ∧ (u.input n).declared = (s.input n).declared ∧
      (∀ m, m ≠ n → u.input m = s.input m) ∧
      u.map = (s.modEntry n (streamNumber p) fun q =>
        { q with lastCount := (en.continuity p).2.1, duplicateMark := (en.continuity p).2.2 }).map ∧
      (∀ k verdict, outcome ≠ .duplicate → used = some (k, verdict) →
        u.slots = s.slots.set k.val (some verdict.slot) k.isLt) ∧
      (outcome = .duplicate ∨ used = none → u.slots = s.slots) ∧
      (∀ (i : Fin 6) (leads : Bool), i ∈ destinations → (leads = true ↔ s.LeadOf i n (streamNumber p)) →
        let x := brought i leads
        let l := s.lanes[i]
        u.lanes[i] = (l.receive x).1 ∧
        (Notice.lane i ∈ u.notices ↔ Notice.lane i ∈ s.notices ∨ (l.receive x).2 = true) ∧
        (l.state ≠ .surveying ∨ (s.surveys[i]).position = none → u.surveys[i] = s.surveys[i]) ∧
        (∀ q, l.state = .surveying → (s.surveys[i]).position = some (q + 1) → u.surveys[i] =
          { s.surveys[i] with records := (s.surveys[i]).records.modify q fun r => r.receive l x })) ∧
      (∀ i : Fin 6, i ∉ destinations → u.surveys[i] = s.surveys[i] ∧
        (Notice.lane i ∈ u.notices → Notice.lane i ∈ s.notices) ∧
        u.lanes[i] = match access i with
          | none => s.lanes[i]
          | some a => Lane.closeGate s.lanes[i] ((s.lanes[i]).setAccess a))

/-- A packet with a good sync value that the demodulator's error line or its own error flag marks, or whose key phase is
RESERVED (R2 steps 3 and 4). Marked in error, its pair begins again with an absent last count; RESERVED with a payload,
its count becomes the last count and the mark is clear; RESERVED without a payload, the continuity record stays. At a
MESSAGE entry a partial section is discarded with cause PACKET_ERROR (R15); at a COMPONENT entry each lane of the set
takes an error report, and the lead arrival DAMAGED if the entry is its lead entry (R12, R26). It goes to no slot and to
no gate. Two clauses are THE MODEL'S READING: that a packet so marked begins no section even when it is CLEAR with its
start flag set, so that its entry is left IDLE, where R15's last sentence would have it begin one (log entry 17); and
that the demodulator's error line counts as the packet's own error flag (log entry 20). -/
def Obligations.DamagedPacketsCountAsErrors : Prop :=
  ∀ (n : Input) (errorLine : Bool) (p : Packet) (s : State) (en : MapEntry),
    let marked := errorLine = true ∨ errorFlag p = true
    s.resetHeld = false → packetByte p 0 = 0x47#8 → marked ∨ wirePhase p = .reserved → streamNumber p ≠ 8191 →
    s.entry? n (streamNumber p) = some en →
    let c := Instr.cablePacket n errorLine p
    let continuity : Option (BitVec 4) × Bool :=
      if marked then (none, false)
      else if hasPayload p = true then (some (sequenceCount p), false) else (en.lastCount, en.duplicateMark)
    let counted := (s.modInput n fun r => { r with sync := .inSync }).modEntry n (streamNumber p) fun q =>
      { q with lastCount := continuity.1, duplicateMark := continuity.2 }
    (∀ route, en.role = .message route .idle → exec c s = .next counted) ∧
    (∀ route held expected, en.role = .message route (.assembling held expected) →
      exec c s = .next (State.noteIf
        ((counted.modEntry n (streamNumber p) (MapEntry.setAssembly .idle)).modSectionRecord route fun r =>
          { r with discarded := raise 65535 r.discarded, lastCause := some .packetError,
                   lastPair := some (n, streamNumber p) }) true (.sections route))) ∧
    (∀ destinations slot, en.role = .component destinations slot → destinations.Nodup →
      ∃ u : State, exec c s = .next u ∧
        u = { counted with lanes := u.lanes, surveys := u.surveys, arbiters := u.arbiters,
                           notices := u.notices } ∧
        (∀ (i : Fin 6) (leads : Bool), i ∈ destinations → (leads = true ↔ s.LeadOf i n (streamNumber p)) →
          let l := s.lanes[i]
          let x : PacketAtLane :=
            { error := true
              lead := if leads then some
                { outcome := .damaged, delivered := false, descrambled := false,
                  scrambledService := slot.isSome, phase := wirePhase p, entryPoint := entryPointFlag p }
                else none }
          u.lanes[i] = (l.receive x).1 ∧
          (Notice.lane i ∈ u.notices ↔ Notice.lane i ∈ s.notices ∨ (l.receive x).2 = true) ∧
          (l.state ≠ .surveying ∨ (s.surveys[i]).position = none → u.surveys[i] = s.surveys[i]) ∧
          (∀ q, l.state = .surveying → (s.surveys[i]).position = some (q + 1) → u.surveys[i] =
            { s.surveys[i] with records := (s.surveys[i]).records.modify q fun r => r.receive l x })) ∧
        (∀ i : Fin 6, i ∉ destinations → u.lanes[i] = s.lanes[i] ∧ u.surveys[i] = s.surveys[i] ∧
          (Notice.lane i ∈ u.notices → Notice.lane i ∈ s.notices)))

/-- What one report or packet does to one lane. A lead arrival sets the silence count to 0 and, in ACQUIRING or STALLED,
completes every step that it can in the order SIGNAL, KEY, ENTRY, each with its tick; with ENTRY the lane is PASSING at a
full health counter, with a LANE notice (R26 to R28, R34). A good event raises the health counter up to the ceiling, at
which a DEGRADED lane recovers; a bad event lowers it, and at 0 a PASSING lane degrades, each with a LANE notice; an error
report is counted and is one bad event (R31 to R33). The gate disposes of an offered packet by its state: HOLD and BLANK
discard it, RELEASING discards it but for the release point, which takes the gate to PASS and is handed off, and PASS
hands it off. A hand-off fills the buffer; one that replaces a programme packet is an overrun, counted, and one bad
event, which at a health counter of 1 or 0 takes a clean PASSING lane to DEGRADED, its gate to HOLD and its buffer to
EMPTY (R50, R51, R56, R57). -/
def Obligations.LaneReportsAndGateDisposal : Prop :=
  (∀ (l : Lane) (a : LeadArrival),
    let tick := some (min l.ticks 255)
    let got := a.outcome = .accepted ∧ a.delivered = true
    let passed (q : Lane) : Lane :=
      { q with step := none, entryTick := tick, state := .passing, health := l.ceiling, silence := 0,
               lastChange := some .passed, reasons := { l.reasons with acquire := false } }
    let heard : Lane := { l with silence := 0 }
    (l.state ≠ .acquiring → l.state ≠ .stalled → l.leadArrival a = (heard, false)) ∧
    (l.state = .acquiring ∨ l.state = .stalled →
      (a.outcome ≠ .accepted ∨ l.step = none → l.leadArrival a = (heard, false)) ∧
      (l.step = some .entry →
        (¬(got ∧ a.entryPoint = true) → l.leadArrival a = (heard, false)) ∧
        (got → a.entryPoint = true → l.leadArrival a = (passed l, true))) ∧
      (l.step = some .key →
        (¬got → l.leadArrival a = (heard, false)) ∧
        (got → a.entryPoint = false → l.leadArrival a = ({ heard with keyTick := tick, step := some .entry }, false)) ∧
        (got → a.entryPoint = true → l.leadArrival a = (passed { l with keyTick := tick }, true))) ∧
      (l.step = some .signal → a.outcome = .accepted →
        (a.delivered = false → l.leadArrival a =
          ({ heard with signalTick := tick
                        step := some (if a.scrambledService = true then .key else .entry) }, false)) ∧
        (a.delivered = true →
          let sensed : Lane :=
            { heard with signalTick := tick, keyTick := if a.scrambledService = true then tick else l.keyTick }
          l.leadArrival a =
            if a.entryPoint = true then (passed sensed, true) else ({ sensed with step := some .entry }, false))))) ∧
  (∀ l : Lane,
    let up := raise l.ceiling l.health
    (l.state = .passing ∨ l.state = .surveying ∨ l.state = .degraded ∧ up ≠ l.ceiling →
      l.goodEvent = ({ l with health := up }, false)) ∧
    (l.state = .degraded → up = l.ceiling → l.goodEvent =
      ({ l with health := up, state := .passing, silence := 0, lastChange := some .recovered,
                reasons := { l.reasons with degrade := false } }, true)) ∧
    (l.state = .surveying ∨ l.state = .degraded ∨ l.state = .passing ∧ 2 ≤ l.health →
      l.badEvent = ({ l with health := l.health - 1 }, false)) ∧
    (l.state = .passing → l.health ≤ 1 → l.badEvent =
      ({ l with health := 0, state := .degraded, lastChange := some .degraded,
                reasons := { l.reasons with degrade := true } }, true)) ∧
    (l.state ∉ [LaneState.passing, .surveying, .degraded] →
      l.goodEvent = (l, false) ∧ l.badEvent = (l, false)) ∧
    (l.state = .idle → l.errorReport = (l, false)) ∧
    (l.state ≠ .idle → l.errorReport = Lane.badEvent { l with errors := raise 65535 l.errors })) ∧
  ∀ (l : Lane) (p : Packet) (release : Bool),
    (l.gate = .hold ∨ l.gate = .blank ∨ (l.gate = .releasing ∧ release = false) →
      l.offer p release = (l, false)) ∧
    (l.gate = .pass ∨ (l.gate = .releasing ∧ release = true) → (∀ q, l.buffer ≠ .programme q) →
      l.offer p release = ({ l with gate := .pass, buffer := .programme p }, false)) ∧
    (∀ q, l.gate = .pass → l.buffer = .programme q → l.state = .passing → l.reasons = {} →
      (2 ≤ l.health → l.offer p release =
        ({ l with buffer := .programme p, overruns := raise 65535 l.overruns, health := l.health - 1 }, false)) ∧
      (l.health ≤ 1 → l.offer p release =
        ({ l with
            buffer := .empty, overruns := raise 65535 l.overruns, health := 0, state := .degraded,
            reasons := { degrade := true }, gate := .hold, lastChange := some .degraded }, true)))

/-! ### Keys and time -/

/-- A KEY section at a slot, and a packet at a slot. The body is a count of 1 or 2 and so many entries of product, phase
and key value, or the section is ignored whole and counted (R79). The entries are taken in order: uncovered, an entry
only raises the refused count; for a half that is in use and keyed it confirms the key or raises the rejected count;
otherwise it votes, and a candidate whose count reaches the threshold (n + 1) / 2 becomes the key (R80 to R84). A packet
without a payload leaves CLEAR; a scrambled one sets the phase in use and is descrambled with the key of its half,
clearing ACCESS, or discarded, setting it; the cipher is a free function of key and payload (R85 to R87, log entry 1). -/
def Obligations.KeyEntryVotes : Prop :=
  (∀ (body : List Byte) (entries : List KeyEntry), parseKeyBody body = some entries ↔
    (entries.length = 1 ∨ entries.length = 2) ∧ (∀ en ∈ entries, en.product < 65536) ∧
    body = BitVec.ofNat 8 entries.length :: entries.flatMap fun en =>
      bytesOfNat 2 en.product ++ [match en.phase with | .even => 2#8 | .odd => 3#8] ++
        bytesOfNat 8 en.value.toNat) ∧
  (∀ (s : State) (k : Fin 16) (r : KeySlot) (body : List Byte), s.slots[k] = some r →
    (parseKeyBody body = none → s.takeKeys k body =
      { s with slots := s.slots.set k.val (some { r with ignored := raise 255 r.ignored }) k.isLt }) ∧
    (∀ entries, parseKeyBody body = some entries → s.takeKeys k body =
      { s with slots := s.slots.set k.val (some (entries.foldl (fun r en =>
          r.takeEntry s.voteDepth (s.covered en.product s.clock.now) en) r)) k.isLt })) ∧
  (∀ (k : KeySlot) (depth : Nat) (en : KeyEntry),
    let h := k.half en.phase
    let t := (depth + 1) / 2
    let voted (after : Half) : Prop := k.takeEntry depth true en = k.modHalf en.phase fun _ => after
    (k.takeEntry depth false en = { k with refused := raise 255 k.refused }) ∧
    (∀ key, k.phase = some en.phase → h.key = some key →
      (key.value = en.value → k.takeEntry depth true en = k) ∧
      (key.value ≠ en.value → k.takeEntry depth true en = { k with rejected := raise 255 k.rejected })) ∧
    (¬(k.phase = some en.phase ∧ h.key ≠ none) →
      ((∃ key, h.key = some key ∧ key.value = en.value) → voted { h with candidate := none }) ∧
      ((∀ key, h.key = some key → key.value ≠ en.value) →
        (h.candidate = none →
          (t ≤ 1 → voted ⟨some ⟨en.value, en.product⟩, none⟩) ∧
          (1 < t → voted { h with candidate := some ⟨en.value, en.product, 1⟩ })) ∧
        (∀ c, h.candidate = some c → c.value = en.value →
          (t ≤ c.agreement + 1 → voted ⟨some ⟨en.value, en.product⟩, none⟩) ∧
          (c.agreement + 1 < t → voted { h with candidate := some ⟨en.value, en.product, c.agreement + 1⟩ })) ∧
        (∀ c, h.candidate = some c → c.value ≠ en.value →
          (c.agreement ≤ 1 → voted { h with candidate := none }) ∧
          (2 ≤ c.agreement → voted { h with candidate := some { c with agreement := c.agreement - 1 } }))))) ∧
  ∀ (k : KeySlot) (p : Packet),
    (hasPayload p = false → k.treat p = ⟨k, some (p.set 2 (p[2] &&& 0x3F#8)), false, none⟩) ∧
    (hasPayload p = true → wirePhase p = .clear → k.treat p = ⟨k, some p, false, none⟩) ∧
    (∀ phase, hasPayload p = true → (wirePhase p = .even ∧ phase = .even ∨ wirePhase p = .odd ∧ phase = .odd) →
      ((k.half phase).key = none → k.treat p = ⟨{ k with phase := some phase }, none, false, some true⟩) ∧
      (∀ key, (k.half phase).key = some key →
        ∃ q : Packet, k.treat p = ⟨{ k with phase := some phase }, some q, true, some false⟩ ∧
          ∀ i : Fin 188,
            let start := if extensionFlag p = true then 5 + min (packetByte p 4).toNat 183 else 4
            q[i] = if start ≤ i.val then Config.cipherByte key.value (payload p) (i.val - start)
              else if i.val = 2 then p[i] &&& 0x3F#8 else p[i]))

/-- A TIME section at the clock. A body that is not 13 bytes is ignored and counted; otherwise the accepted count rises,
the daylight-saving window is stored, its delta held at 120 and at a multiple of 15 minutes, and the message time is
judged (R123). An INVALID clock becomes VALID; a difference of at most 1 changes nothing but the pending step; from 2 to
300 it is a small step; above 300 it becomes the pending step, confirms it within 2 seconds, or replaces it. A step sets
N, the counts and causes and the previous index and day, and raises a CLOCK notice (R124 to R126, R132, R133); what
it does at the other blocks StepOfTimeReachesItsOwners says. -/
def Obligations.TimeSectionJudged : Prop :=
  (∀ (e : Ev) (body : List Byte),
    let c := e.now.clock
    (body.length ≠ 13 → e.takeTime body =
      { e with now := { e.now with clock := { c with malformed := raise 255 c.malformed } } }) ∧
    (∀ (time start stop : Word32) (delta : Byte), body = bytes32 time ++ bytes32 start ++ bytes32 stop ++ [delta] →
      e.takeTime body = Ev.judgeTime
        { e with now := { e.now with clock :=
          { c with accepted := raise 65535 c.accepted, dstStart := start.toNat, dstEnd := stop.toNat,
                   dstDelta := min delta.toNat 120 / 15 * 15 } } } time.toNat)) ∧
  ∀ (e : Ev) (time : Nat),
    let c := e.now.clock
    let d : Int := (time : Int) - (c.now : Int)
    let after := e.judgeTime time
    let dropped := if c.pendingStep = none then c.unconfirmed else raise 255 c.unconfirmed
    let stepped (unconfirmed : Nat) (change : ClockChange) (by' : Option Int) : Prop :=
      after.now.clock =
        { c with valid := true, now := time, pendingStep := none, unconfirmed := unconfirmed,
                 steps := raise 65535 c.steps, lastChange := some change, lastStep := by',
                 previousIndex := some ({ c with now := time } : Clock).minuteIndex,
                 previousDay := some ({ c with now := time } : Clock).day } ∧ Notice.clock ∈ after.raised ∧
      after = Ev.stepClock { e with now := { e.now with clock :=
        { c with pendingStep := none, unconfirmed := unconfirmed } } } time change by'
    (c.valid = false → stepped c.unconfirmed .valid none) ∧
    (c.valid = true →
      (-1 ≤ d ∧ d ≤ 1 → after = { e with now := { e.now with clock :=
        { c with pendingStep := none, unconfirmed := dropped } } }) ∧
      ((2 ≤ d ∧ d ≤ 300) ∨ (-300 ≤ d ∧ d ≤ -2) → stepped dropped .smallStep (some d)) ∧
      (300 < d ∨ d < -300 →
        (c.pendingStep = none →
          after = { e with now := { e.now with clock := { c with pendingStep := some ⟨time, 0⟩ } } }) ∧
        (∀ p, c.pendingStep = some p →
          let miss : Int := (time : Int) - ((p.value : Int) + (p.age : Int))
          (-2 ≤ miss ∧ miss ≤ 2 → stepped c.unconfirmed .largeStep (some d)) ∧
          (miss < -2 ∨ 2 < miss → after = { e with now := { e.now with clock :=
            { c with pendingStep := some ⟨time, 0⟩, unconfirmed := raise 255 c.unconfirmed } } }))))

/-- A step of network time at its owners, in one event (R132). Expiry removes the grants ended at the new N, with last
change EXPIRED and a GRANT notice if there were any, and one rescan of the slots follows in any case (R98, R99). Each
lane's copy is recomputed, with the programme boundaries that `State.laneRecomputed` says (R144, R145, R55). At a d from
1 to 300 the timers are evaluated at every minute index after the old one up to the new one, in rising order and each
time in rising timer number, and at no index otherwise: not at a new index that is no greater, nor at any other d (R153,
R152). Each profile makes its day check against the new day, and then every evaluated lane is evaluated (R171, R169,
R162). A CLOCK notice is raised (R133). That the old index is the previous index which the clock held is THE MODEL'S
READING (log entry 9). -/
def Obligations.StepOfTimeReachesItsOwners : Prop :=
  ∀ (e : Ev) (time : Nat) (change : ClockChange) (d : Option Int),
    let s := e.now
    let n := s.entitlement
    let left := n.grants.filter fun g => !g.endedAt time
    let stepped : Clock := { s.clock with
      valid := true, now := time, pendingStep := none, steps := raise 65535 s.clock.steps
      lastChange := some change, lastStep := d }
    let index := stepped.minuteIndex
    let scanned : State := State.rescan { s with
      clock := { stepped with previousIndex := some index, previousDay := some stepped.day }
      entitlement := { n with
        grants := left, lastChange := if left = n.grants then n.lastChange else some .expired } }
    let caughtUp : List Nat := match s.clock.previousIndex, d with
      | some old, some k =>
        if 1 ≤ k ∧ k ≤ 300 then (List.range (index + 1)).filter fun j => decide (old < j) else []
      | _, _ => []
    let after := e.stepClock time change d
    ∃ (lanes : Vector Lane 6) (raised : List Notice),
      (∀ i : Fin 6, lanes[i] = (scanned.laneRecomputed i).1) ∧
      (∀ x : Notice, x ∈ raised ↔ x ∈ e.raised ∨ x = .clock ∨ (x = .grant ∧ left ≠ n.grants) ∨
        ∃ i : Fin 6, x = .lane i ∧ (scanned.laneRecomputed i).2 = true) ∧
      let recomputed : Ev := { e with now := { scanned with lanes := lanes }, raised := raised }
      let fired := caughtUp.foldl (fun e j => allTimers.foldl (fun e t => e.evaluateTimer j t) e) recomputed
      after.now = { fired.now with profiles := after.now.profiles, lanes := after.now.lanes } ∧
      (∀ x ∈ fired.raised, x ∈ after.raised) ∧
      (∀ p : Fin 4,
        let old := fired.now.profiles[p]
        let new : Profile := { old with used := 0, extension := 0, recordedDay := some stepped.day }
        let resets := ∃ day, old.recordedDay = some day ∧ day ≠ stepped.day
        let lifted := new.reached = false ∧ ∃ i : Fin 6, i.val < 2 ∧
          (fired.now.lanes[i]).evaluatedFor p = true ∧ (fired.now.lanes[i]).reasons.budget = true
        (¬resets → after.now.profiles[p] = { old with recordedDay := some stepped.day }) ∧
        (resets → ¬lifted → after.now.profiles[p] = new) ∧
        (resets → lifted → after.now.profiles[p] = { new with lastChange := some .dayReset } ∧
          Notice.profile p ∈ after.raised)) ∧
      ∀ i : Fin 6,
        let l := fired.now.lanes[i]
        (∀ p : Fin 4, i.val < 2 → l.profile = some p → l.state.evaluated = true →
          after.now.lanes[i] = { l with reasons := { l.reasons with
            rating := l.ratingHolds after.now.profiles[p]
            window := (after.now.profiles[p]).windowHolds scanned.clock
            budget := (after.now.profiles[p]).reached } }) ∧
        (2 ≤ i.val ∨ l.profile = none ∨ l.state.evaluated = false → after.now.lanes[i] = l)

/-- A GRANT section at the entitlement block. A body is a unit address and 1 to 16 operations, each spelled in form and
nothing after them, or it is counted as malformed and ignored (R100). One for another address, or taken while the unit
address is unset, changes nothing (R101). Otherwise the applied count rises and the operations act in order, each on
what the one before it left. ADD sets the times of the product's HEADEND grant or creates it; in a full table the ended
grants are removed first, and when none was the ADD is dropped and counted (R102). REMOVE takes every grant of the
product (R103), CEILING sets the ceiling (R104), COLLECT removes the record of a sequence and every older one, and
returns the price of the ACTIVE ones to the credit (R105, R108). One rescan follows if a grant was created, changed or
removed, and a GRANT notice if anything changed or an ADD was dropped, with cause ADD_DROPPED or HEADEND (R99, R106). -/
def Obligations.GrantSectionTaken : Prop :=
  (∀ (body : List Byte) (address : Word32) (ops : List GrantOp), parseGrantBody body = some (address, ops) ↔
    1 ≤ ops.length ∧ ops.length ≤ 16 ∧ ∃ spelled : List (List Byte), List.Forall₂ GrantOp.SpelledBy ops spelled ∧
      body = bytes32 address ++ [BitVec.ofNat 8 ops.length] ++ spelled.flatten) ∧
  (∀ (e : Ev) (body : List Byte),
    let n := e.now.entitlement
    (parseGrantBody body = none → e.takeGrant body =
      { e with now := { e.now with entitlement := { n with malformed := raise 255 n.malformed } } }) ∧
    (∀ address ops, parseGrantBody body = some (address, ops) →
      (e.now.unitAddress ≠ some address → e.takeGrant body = e) ∧
      (e.now.unitAddress = some address →
        let after (k : Nat) : State := (ops.take k).foldl (fun s op => (s.grantOp op).1)
          { e.now with entitlement := { n with applied := raise 65535 n.applied } }
        let held (k : Nat) : Entitlement := (after k).entitlement
        let drops (k : Nat) : Prop := ∃ op, ops[k]? = some op ∧ ((after k).grantOp op).2 = true
        let moves (k : Nat) : Prop := (held k).grants ≠ (held (k + 1)).grants
        let changes (k : Nat) : Prop := moves k ∨ (held k).ceiling ≠ (held (k + 1)).ceiling ∨
          (held k).log ≠ (held (k + 1)).log ∨ drops k
        let last := after ops.length
        let now := (e.takeGrant body).now
        now = { last with slots := now.slots, entitlement :=
          { last.entitlement with lastChange := now.entitlement.lastChange } } ∧
        ((∃ k < ops.length, moves k) → now.slots = last.rescan.slots) ∧
        ((∀ k < ops.length, ¬moves k) → now.slots = last.slots) ∧
        ((∃ k < ops.length, changes k) → (e.takeGrant body).raised = .grant :: e.raised ∧
          ((∃ k < ops.length, drops k) → now.entitlement.lastChange = some .addDropped) ∧
          ((∀ k < ops.length, ¬drops k) → now.entitlement.lastChange = some .headend)) ∧
        ((∀ k < ops.length, ¬changes k) → (e.takeGrant body).raised = e.raised ∧
          now.entitlement.lastChange = n.lastChange)))) ∧
  (∀ (s : State) (product start : Nat) (stop : Option Nat) (value sequence : Nat),
    let n := s.entitlement
    let is (g : Grant) : Prop := g.product = product ∧ g.source = .headend
    let new : Grant := { product := product, source := .headend, start := start, stop := stop, sequence := none }
    let left := if s.clock.valid = true then n.grants.filter fun g => !g.endedAt s.clock.now else n.grants
    let set (gs : List Grant) : State := { s with entitlement := { n with grants := gs } }
    ((∃ g ∈ n.grants, is g) → s.grantOp (.add product start stop) = (set (n.grants.map fun g =>
      if g.product = product ∧ g.source = .headend then { g with start := start, stop := stop } else g), false)) ∧
    ((∀ g ∈ n.grants, ¬is g) →
      (n.grants.length < 48 → s.grantOp (.add product start stop) = (set (placeGrant new n.grants), false)) ∧
      (48 ≤ n.grants.length → left.length < 48 →
        s.grantOp (.add product start stop) = (set (placeGrant new left), false)) ∧
      (48 ≤ left.length → s.grantOp (.add product start stop) =
        ({ s with entitlement := { n with
            grants := left, dropped := raise 255 n.dropped, lastDropped := some product } }, true))) ∧
    (s.grantOp (.remove product) = (set (n.grants.filter fun g => decide (g.product ≠ product)), false)) ∧
    (s.grantOp (.ceiling value) = ({ s with entitlement := { n with ceiling := value } }, false)) ∧
    ((∀ r ∈ n.log, r.sequence ≠ sequence) → s.grantOp (.collect sequence) = (s, false)) ∧
    (∀ older r newer, n.log = older ++ r :: newer → r.sequence = sequence → (∀ q ∈ older, q.sequence ≠ sequence) →
      s.grantOp (.collect sequence) = ({ s with entitlement := { n with
        log := newer
        spent := n.spent - (((older ++ [r]).filter fun q => decide (q.state = .active)).map fun q => q.price).sum } },
        false))) ∧
  ∀ (g : Grant) (gs : List Grant), ∃ lower upper, gs = lower ++ upper ∧ placeGrant g gs = lower ++ g :: upper ∧
    (∀ h ∈ lower, ¬(g.product < h.product ∨ g.product = h.product ∧ g.source = .headend ∧ h.source = .purchase)) ∧
    ∀ h, upper.head? = some h →
      g.product < h.product ∨ g.product = h.product ∧ g.source = .headend ∧ h.source = .purchase

/-- A GUIDE section at the guide. A body is a service, a count from 1 to 24 and so many entries, each in its range, and
nothing after them, or it is counted as malformed and ignored (R138). Its entries are sifted in order, an entry that
overlaps one kept being dropped and counted; the stored entries of the service that overlap the span of the new ones are
removed and counted as replaced (R136, R139, R140). The new entries are then placed in table order, one by one: into
a full table after evicting the ended entry with the earliest end, or else the entry with the latest start if the new
one starts earlier, or else not at all, and each fate is counted (R137, R141). If the table changed, the copies of the
lanes are recomputed, with the programme boundaries that `State.laneRecomputed` says (R142, R144, R145, R55). That of
two entries of one service which both start at the largest second, 4,294,967,295, and so do not overlap, both are kept
and the later placed stands behind is THE MODEL'S CHOICE, against R137's words that no two starts are equal (log entry
30). -/
def Obligations.GuideSectionTaken : Prop :=
  (∀ (body : List Byte) (service : Nat) (es : List GuideEntry), parseGuideBody body = some (service, es) ↔
    (1 ≤ service ∧ service < 65536) ∧ (1 ≤ es.length ∧ es.length ≤ 24) ∧
    (∀ g ∈ es, g.service = service ∧ g.event < 65536 ∧ g.start < 2 ^ 32 ∧ 1 ≤ g.duration ∧ g.duration ≤ 1440 ∧
      g.rating ≤ 15 ∧ g.product < 65536 ∧ g.price < 65536) ∧
    body = bytesOfNat 2 service ++ [BitVec.ofNat 8 es.length] ++ es.flatMap fun g =>
      bytesOfNat 2 g.event ++ bytesOfNat 4 g.start ++ bytesOfNat 2 g.duration ++ bytesOfNat 1 g.rating ++
        bytesOfNat 2 g.product ++ bytesOfNat 2 g.price) ∧
  (∀ (e : Ev) (body : List Byte),
    let old := e.now.guide
    (parseGuideBody body = none → e.takeGuide body =
      { e with now := { e.now with guide := { old with malformed := raise 255 old.malformed } } }) ∧
    (∀ service es, parseGuideBody body = some (service, es) →
      let kept := (siftEntries es).1
      let gone (g : GuideEntry) : Bool := decide (g.service = service ∧ ∃ first ∈ kept, ∃ last ∈ kept,
        first.start < g.stop ∧ g.start < last.stop)
      let cleared : Guide :=
        { old with
          entries := old.entries.filter fun g => !gone g
          taken := raise 65535 old.taken
          overlap := min (old.overlap + (siftEntries es).2) (max 65535 old.overlap)
          replaced := min (old.replaced + (old.entries.filter gone).length) (max 65535 old.replaced) }
      let new := kept.foldl (Guide.place e.now.clock) cleared
      let stored : Ev := { e with now := { e.now with guide := new } }
      (new.entries = old.entries → new.replaced = old.replaced → e.takeGuide body = stored) ∧
      (new.entries ≠ old.entries ∨ new.replaced ≠ old.replaced → e.takeGuide body = stored.recomputeCopies)) ∧
    (∃ lanes, e.recomputeCopies.now = { e.now with lanes := lanes } ∧ ∀ i : Fin 6,
      lanes[i] = (e.now.laneRecomputed i).1 ∧
      (Notice.lane i ∈ e.recomputeCopies.raised ↔
        Notice.lane i ∈ e.raised ∨ (e.now.laneRecomputed i).2 = true))) ∧
  (siftEntries [] = ([], 0) ∧ ∀ (es : List GuideEntry) (g : GuideEntry),
    let so := siftEntries es
    let overlaps := ∃ h ∈ so.1, g.start < h.stop ∧ h.start < g.stop
    (overlaps → siftEntries (es ++ [g]) = (so.1, so.2 + 1)) ∧
    (¬overlaps → siftEntries (es ++ [g]) = (so.1 ++ [g], so.2))) ∧
  (∀ (c : Clock) (guide : Guide) (g : GuideEntry),
    let table := guide.entries
    let ended := table.filter fun h => decide (c.valid = true ∧ h.stop ≤ c.now)
    let evicts (h : GuideEntry) : Prop := guide.place c g =
      { guide with entries := placeEntry g (table.erase h), evicted := raise 65535 guide.evicted
                   stored := raise 65535 guide.stored }
    (table.length < 384 → guide.place c g =
      { guide with entries := placeEntry g table, stored := raise 65535 guide.stored }) ∧
    (∀ before h behind, 384 ≤ table.length → ended = before ++ h :: behind → (∀ x ∈ before, h.stop < x.stop) →
      (∀ x ∈ behind, h.stop ≤ x.stop) → evicts h) ∧
    (∀ before h behind, 384 ≤ table.length → ended = [] → table = before ++ h :: behind →
      (∀ x ∈ before, x.start ≤ h.start) → (∀ x ∈ behind, x.start < h.start) →
      (g.start < h.start → evicts h) ∧
      (h.start ≤ g.start → guide.place c g = { guide with refused := raise 65535 guide.refused }))) ∧
  ∀ (g : GuideEntry) (table : List GuideEntry), ∃ lower upper, table = lower ++ upper ∧
    placeEntry g table = lower ++ g :: upper ∧
    (∀ h ∈ lower, ¬(g.service < h.service ∨ g.service = h.service ∧ g.start < h.start)) ∧
    ∀ h, upper.head? = some h → g.service < h.service ∨ g.service = h.service ∧ g.start < h.start

/-- A tick event raises the tick phase, and at every lane that is not IDLE raises ticks since tune: an ACQUIRING lane
whose dwell has run out stalls and a PASSING lane whose silence limit is reached degrades, each with a LANE notice; a
SURVEYING lane whose dwell has run out ends its turn DONE; other lanes keep their state (R29, R34, R70, R121). The tenth
tick event is also the second event, which is handled within it, before or after the lanes' counts; a lane that an
auto-stop does not end counts in it as in the other nine. That the two are one row is THE MODEL'S CHOICE (log entries 2
and 6). -/
def Obligations.TickEventCounts : Prop :=
  ∀ s : State, s.resetHeld = false →
    ∃ t : State, exec .tickEvent s = .next t ∧
      (9 ≤ s.tickPhase → t.tickPhase = 0 ∧ t.secondTaken = true ∧
        t.clock.now = if s.clock.valid = true then raise 4294967295 s.clock.now else s.clock.now) ∧
      (s.tickPhase < 9 →
        t = { s with tickPhase := s.tickPhase + 1, secondTaken := false, lanes := t.lanes, map := t.map,
                     slots := t.slots, surveys := t.surveys, arbiters := t.arbiters, notices := t.notices } ∧
        ∀ i : Fin 6,
          let l := s.lanes[i]
          let ticks := raise 65535 l.ticks
          let silence := raise 255 l.silence
          (l.state = .idle → t.lanes[i] = l) ∧
          (l.state = .acquiring → ticks < l.dwell → t.lanes[i] = { l with ticks := ticks }) ∧
          (l.state = .acquiring → l.dwell ≤ ticks → Notice.lane i ∈ t.notices ∧ t.lanes[i] =
            Lane.closeGate l { l with ticks := ticks, state := .stalled, lastChange := some .stalled }) ∧
          (l.state = .stalled ∨ l.state = .lost → t.lanes[i] = { l with ticks := ticks }) ∧
          (l.state = .passing → silence < l.silenceLimit →
            t.lanes[i] = { l with ticks := ticks, silence := silence }) ∧
          (l.state = .passing → l.silenceLimit ≤ silence → Notice.lane i ∈ t.notices ∧ t.lanes[i] =
            Lane.closeGate l
              { l with ticks := ticks, silence := silence, health := 0, state := .degraded,
                       lastChange := some .degraded, reasons := { l.reasons with degrade := true } }) ∧
          (l.state = .degraded → t.lanes[i] = { l with
            ticks := ticks, silence := silence, health := if l.silenceLimit ≤ silence then 0 else l.health })) ∧
      (∀ i : Fin 6,
        let l := s.lanes[i]
        let ticks := raise 65535 l.ticks
        let silence := if l.state = .passing ∨ l.state = .degraded then raise 255 l.silence else l.silence
        let quiet := decide (l.silenceLimit ≤ silence)
        s.tickPhase < 9 ∨ (∀ n, l.autoStop = some n → 2 ≤ n) →
        (l.state ≠ .idle → l.state ≠ .surveying →
          (t.lanes[i]).ticks = ticks ∧ (t.lanes[i]).silence = silence ∧
          (t.lanes[i]).state = (if l.state = .acquiring ∧ l.dwell ≤ ticks then .stalled
            else if l.state = .passing ∧ quiet = true then .degraded else l.state) ∧
          (t.lanes[i]).health =
            (if (l.state = .passing ∨ l.state = .degraded) ∧ quiet = true then 0 else l.health) ∧
          (t.lanes[i]).errors = l.errors ∧ (t.lanes[i]).service = l.service ∧ (t.lanes[i]).step = l.step ∧
          ((t.lanes[i]).state ≠ l.state → Notice.lane i ∈ t.notices)) ∧
        (l.state = .surveying → ticks < l.dwell →
          (t.lanes[i]).state = .surveying ∧ (t.lanes[i]).ticks = ticks ∧ (t.lanes[i]).step = l.step ∧
          (t.lanes[i]).health = l.health ∧ t.surveys[i] = s.surveys[i]) ∧
        (∀ (q : Nat) (r : SurveyRecord), l.state = .surveying → l.dwell ≤ ticks →
          (s.surveys[i]).position = some (q + 1) → (s.surveys[i]).records[q]? = some r →
          (t.surveys[i]).records[q]? = some { r with outcome := some .done } ∧
          ((∃ later, q + 1 < later ∧ (t.surveys[i]).position = some later) ∧ (t.lanes[i]).state = .surveying ∨
            (t.surveys[i]).position = none ∧ (t.surveys[i]).status = .complete ∧ Notice.survey i ∈ t.notices)))

/-- A second event: while the clock is VALID N rises by 1, a pending step ages and is dropped at age 60, and
the grants ended at the counted N leave the table; while it is INVALID the clock stands still. Lockouts and
period overrides fall by 1, and each that reaches 0 raises a PROFILE notice; an auto-stop above 1 falls by 1. A
second event that the tick event has already handled does nothing more, which is THE MODEL'S CHOICE (R122, R98,
R168, R36; log entry 6). -/
def Obligations.SecondEventCounts : Prop :=
  ∀ s : State, s.resetHeld = false →
    (s.secondTaken = true → exec .secondEvent s = .next { s with secondTaken := false }) ∧
    (s.secondTaken = false → ∃ t : State, exec .secondEvent s = .next t ∧
      (s.clock.valid = false → t.clock = s.clock ∧ t.entitlement = s.entitlement) ∧
      (s.clock.valid = true →
        t.clock.valid = true ∧ t.clock.now = raise 4294967295 s.clock.now ∧
        t.entitlement.grants = s.entitlement.grants.filter (fun g => !g.endedAt (raise 4294967295 s.clock.now)) ∧
        (s.clock.pendingStep = none → t.clock.pendingStep = none ∧ t.clock.unconfirmed = s.clock.unconfirmed) ∧
        (∀ p, s.clock.pendingStep = some p →
          (p.age + 1 < 60 → t.clock.pendingStep = some ⟨p.value, p.age + 1⟩) ∧
          (60 ≤ p.age + 1 → t.clock.pendingStep = none ∧
            t.clock.unconfirmed = raise 255 s.clock.unconfirmed))) ∧
      (∀ p : Fin 4, (t.profiles[p]).lockout = (s.profiles[p]).lockout - 1 ∧
        (t.profiles[p]).period = (s.profiles[p]).period - 1 ∧
        (t.profiles[p]).failures = (s.profiles[p]).failures ∧
        ((s.profiles[p]).lockout = 1 ∨ (s.profiles[p]).period = 1 → Notice.profile p ∈ t.notices)) ∧
      (∀ (i : Fin 6) (n : Nat), (s.lanes[i]).autoStop = some (n + 2) → (s.lanes[i]).state ≠ .idle →
        (t.lanes[i]).autoStop = some (n + 1) ∧ (t.lanes[i]).state = (s.lanes[i]).state))

/-- A second event at the profiles, the timers and the lanes. While the clock is VALID, a day event checks each profile
against the new day: another recorded day resets used seconds and extension (R131, R169). Used seconds rise by 1 when a
viewing lane of the profile is PASSING or DEGRADED without a blank reason, and reaching a limited budget raises a PROFILE
notice (R170); this is said of a profile whose lanes meet no programme boundary in the same second, since whether the
boundary or the count comes first is left open (log entry 2). A minute event evaluates the timers (R131, R152). Where no
timer fires, a lane takes its new copy, at a boundary with hold-at-end, loses a second of its auto-stop, and an evaluated
lane has its parental reasons worked out (R144, R145, R55, R168, R36); at its last second the auto-stop leaves it IDLE
with a LANE notice (R36). That a second event already handled by its tick does nothing more is THE MODEL'S CHOICE (log
entry 6). -/
def Obligations.SecondEventAtLanesAndTimers : Prop :=
  ∀ s : State, s.resetHeld = false → s.secondTaken = false → ∃ t : State, exec .secondEvent s = .next t ∧
    let index := t.clock.minuteIndex
    let minute : Bool := s.clock.valid && decide (s.clock.previousIndex ≠ some index)
    let boundary (l : Lane) : Bool := l.state.keepsCopy && isBoundary l.copy (l.service.bind t.currentEntry)
    (s.clock.valid = true →
      t.clock.previousIndex = some index ∧ t.clock.previousDay = some t.clock.day) ∧
    (∀ p : Fin 4,
      let old := s.profiles[p]
      let new := t.profiles[p]
      let checked := s.clock.valid && decide (s.clock.previousDay ≠ some t.clock.day)
      let reset := checked && old.recordedDay.isSome && decide (old.recordedDay ≠ some t.clock.day)
      let used := if reset = true then 0 else old.used
      let extension := if reset = true then 0 else old.extension
      let limit := 60 * old.budget + extension
      let lifted := reset && !decide (old.budget < 1440 ∧ limit = 0)
      let counts (l : Lane) : Prop := (l.state = .passing ∨ l.state = .degraded) ∧ l.profile = some p ∧
        l.reasons.hostBlank = false ∧ l.reasons.rating = false ∧ l.reasons.window = false ∧
        l.reasons.access = false ∧
        (if reset = true then ¬(old.budget < 1440 ∧ limit = 0) else l.reasons.budget = false)
      (∀ i : Fin 6, i.val < 2 → (s.lanes[i]).profile = some p → boundary s.lanes[i] = false) →
      new = { old with
        lockout := old.lockout - 1, period := old.period - 1, used := new.used, extension := extension
        recordedDay := if checked = true then some t.clock.day else old.recordedDay
        lastChange := new.lastChange } ∧
      ((s.clock.valid = true ∧ ∃ i : Fin 6, i.val < 2 ∧ counts s.lanes[i]) → new.used = raise 86400 used) ∧
      (¬(s.clock.valid = true ∧ ∃ i : Fin 6, i.val < 2 ∧ counts s.lanes[i]) → new.used = used) ∧
      (old.budget < 1440 → used < limit → limit ≤ new.used →
        Notice.profile p ∈ t.notices ∧ new.lastChange = some .budgetReached) ∧
      (∀ i : Fin 6, lifted = true → i.val < 2 → (s.lanes[i]).evaluatedFor p = true →
        (s.lanes[i]).reasons.budget = true → Notice.profile p ∈ t.notices ∧
          (new.lastChange = some .dayReset ∨ new.lastChange = some .budgetReached))) ∧
    (∀ k : Fin 24,
      (minute = false ∨ (s.timers[k]).fires index = false → t.timers[k] = s.timers[k]) ∧
      (minute = true → (s.timers[k]).fires index = true → Notice.timer k ∈ t.notices ∧
        ∃ outcome cause, t.timers[k] = { s.timers[k] with
          lastFired := some index, isSet := (s.timers[k]).repeats, lastOutcome := some outcome,
          lastCause := cause } ∧ ((s.timers[k]).action = .remind → outcome = .fired ∧ cause = none))) ∧
    ((minute = false ∨ ∀ k : Fin 24, (s.timers[k]).fires index = false) → ∀ i : Fin 6,
      let l := s.lanes[i]
      let held : Bool := boundary l && l.holdAtEnd && l.copy.isSome
      let moved : Lane :=
        { l with
          copy := if l.state.keepsCopy = true then l.service.bind t.currentEntry else l.copy
          override := if boundary l = true then none else l.override
          autoStop := if l.state = .idle then l.autoStop else l.autoStop.map fun n => n - 1
          lastChange := if held = true then some .heldAtEnd else l.lastChange
          reasons := { l.reasons with hostHold := held || l.reasons.hostHold } }
      ((l.state = .idle ∨ ∀ n, l.autoStop = some n → 2 ≤ n) →
        (∀ p : Fin 4, i.val < 2 → l.profile = some p → l.state.evaluated = true →
          t.lanes[i] = Lane.closeGate l { moved with reasons := { moved.reasons with
            rating := moved.ratingHolds t.profiles[p]
            window := (t.profiles[p]).windowHolds t.clock
            budget := (t.profiles[p]).reached } }) ∧
        (2 ≤ i.val ∨ l.profile = none ∨ l.state.evaluated = false → t.lanes[i] = Lane.closeGate l moved) ∧
        (held = true → Notice.lane i ∈ t.notices)) ∧
      (∀ n, l.state ≠ .idle → l.autoStop = some n → n ≤ 1 → Notice.lane i ∈ t.notices ∧
        (∀ (m : Input) (x : Nat), ¬t.Member i m x ∧ ¬t.UsesSlot i m x) ∧
        t.lanes[i] =
          { l with
            state := .idle, step := none, service := none, input := none, profile := none, health := 0,
            silence := 0, autoStop := none, override := none, copy := none, lastChange := some .autoStopped,
            reasons := {}, gate := .hold, buffer := .empty }))

/-- The parts of a tick event and of a second event that the table lists as rows, each with its effect when its
condition holds and none otherwise. STALLED and SILENCE_LIMIT change a lane, and SURVEY_TURN_END ends a turn whose dwell
has run out with outcome DONE (R29, R34, R70). AUTO_STOPPED leaves a lane IDLE, LOCKOUT_ENDED and PERIOD_ENDED end what
they name, PENDING_STEP_DROP drops the pending step and EXPIRED removes the ended grants (R36, R98, R122, R168, R176).
That they act alone when delivered alone is THE MODEL'S CHOICE (log entry 11). -/
def Obligations.PartsOfTheTimeEvents : Prop :=
  (∀ (i : Fin 6) (s : State), s.resetHeld = false →
    let l := s.lanes[i]
    (¬(l.state = .acquiring ∧ l.dwell ≤ l.ticks) → exec (.stalled i) s = .next s) ∧
    (l.state = .acquiring → l.dwell ≤ l.ticks → ∃ u : State, exec (.stalled i) s = .next u ∧
      u = { s with lanes := u.lanes, arbiters := u.arbiters, notices := u.notices } ∧
      u.lanes[i] = Lane.closeGate l { l with state := .stalled, lastChange := some .stalled } ∧
      Notice.lane i ∈ u.notices ∧ ∀ j : Fin 6, j ≠ i → u.lanes[j] = s.lanes[j]) ∧
    (¬(l.silenceLimit ≤ l.silence ∧ (l.state = .passing ∨ l.state = .degraded)) →
      exec (.silenceLimit i) s = .next s) ∧
    (l.silenceLimit ≤ l.silence → l.state = .passing → ∃ u : State, exec (.silenceLimit i) s = .next u ∧
      u = { s with lanes := u.lanes, arbiters := u.arbiters, notices := u.notices } ∧
      u.lanes[i] = Lane.closeGate l { l with
        health := 0, state := .degraded, lastChange := some .degraded,
        reasons := { l.reasons with degrade := true } } ∧
      Notice.lane i ∈ u.notices ∧ ∀ j : Fin 6, j ≠ i → u.lanes[j] = s.lanes[j]) ∧
    (l.silenceLimit ≤ l.silence → l.state = .degraded → exec (.silenceLimit i) s = .next
      { s with lanes := s.lanes.set i.val { l with health := 0 } i.isLt }) ∧
    (¬(l.state = .surveying ∧ l.dwell ≤ l.ticks) → exec (.surveyTurnEnd i) s = .next s) ∧
    (∀ (q : Nat) (r : SurveyRecord), l.state = .surveying → l.dwell ≤ l.ticks →
      (s.surveys[i]).position = some (q + 1) → (s.surveys[i]).records[q]? = some r →
      ∃ u : State, exec (.surveyTurnEnd i) s = .next u ∧
        u = { s with lanes := u.lanes, map := u.map, slots := u.slots, surveys := u.surveys,
                     arbiters := u.arbiters, notices := u.notices } ∧
        (u.surveys[i]).records[q]? = some { r with outcome := some .done } ∧
        ∀ j : Fin 6, j ≠ i → u.lanes[j] = s.lanes[j] ∧ u.surveys[j] = s.surveys[j])) ∧
  ∀ (i : Fin 6) (p : Fin 4) (s : State), s.resetHeld = false →
    let l := s.lanes[i]
    let raised (n : Notice) : List Notice := if n ∈ s.notices then s.notices else s.notices ++ [n]
    (¬(l.state ≠ .idle ∧ ∃ n, l.autoStop = some n ∧ n ≤ 1) → exec (.autoStopped i) s = .next s) ∧
    (∀ n, l.state ≠ .idle → l.autoStop = some n → n ≤ 1 → ∃ u : State, exec (.autoStopped i) s = .next u ∧
      u = { s with lanes := u.lanes, map := (s.detach i).map, slots := (s.detach i).slots,
                   arbiters := u.arbiters, notices := u.notices } ∧
      (s.MapSound → s.LeftBy u i) ∧ (u.lanes[i]).state = .idle ∧ (u.lanes[i]).service = none ∧ (u.lanes[i]).autoStop = none ∧
      (u.lanes[i]).lastChange = some .autoStopped ∧ (u.lanes[i]).gate = .hold ∧ (u.lanes[i]).buffer = .empty ∧
      Notice.lane i ∈ u.notices ∧ ∀ j : Fin 6, j ≠ i → u.lanes[j] = s.lanes[j]) ∧
    ((s.profiles[p]).lockout ≠ 1 → exec (.lockoutEnded p) s = .next s) ∧
    ((s.profiles[p]).lockout = 1 → exec (.lockoutEnded p) s = .next
      { s.modProfile p fun r => { r with lockout := 0, lastChange := some .lockoutEnded } with
        notices := raised (.profile p) }) ∧
    ((s.profiles[p]).period ≠ 1 → exec (.periodEnded p) s = .next s) ∧
    ((s.profiles[p]).period = 1 → ∃ u : State, exec (.periodEnded p) s = .next u ∧
      u = { s with profiles := u.profiles, lanes := u.lanes, arbiters := u.arbiters, notices := u.notices } ∧
      u.profiles = (s.modProfile p fun r => { r with period := 0, lastChange := some .periodEnded }).profiles ∧
      Notice.profile p ∈ u.notices ∧
      (∀ j : Fin 6, (s.lanes[j]).evaluatedFor p = true → j.val < 2 →
        ((u.lanes[j]).reasons).rating = (s.lanes[j]).ratingHolds u.profiles[p] ∧
        ((u.lanes[j]).reasons).window = (u.profiles[p]).windowHolds s.clock)) ∧
    (¬(s.clock.valid = true ∧ ∃ q, s.clock.pendingStep = some q ∧ 59 ≤ q.age) →
      exec .pendingStepDrop s = .next s) ∧
    (∀ q, s.clock.valid = true → s.clock.pendingStep = some q → 59 ≤ q.age →
      exec .pendingStepDrop s = .next
        { s with clock := { s.clock with pendingStep := none, unconfirmed := raise 255 s.clock.unconfirmed } }) ∧
    (¬(s.clock.valid = true ∧ ∃ g ∈ s.entitlement.grants, g.endedAt s.clock.now = true) →
      exec .expired s = .next s) ∧
    (s.clock.valid = true → (∃ g ∈ s.entitlement.grants, g.endedAt s.clock.now = true) →
      exec .expired s = .next
        { State.rescan { s with entitlement := { s.entitlement with
            grants := s.entitlement.grants.filter (fun g => !g.endedAt s.clock.now)
            lastChange := some .expired } } with notices := raised .grant })

/-- The firing of a timer, at the row TIMER_FIRE. A SET timer fires at a minute index when its weekday, hour and minute
match it or are ANY and it has not fired at that index or later, which only happens while the clock is VALID; it then
keeps the index, is EMPTY unless it repeats, and a TIMER notice is raised (R151, R152, R157). REMIND raises kind 6 at
its display with service, current event and timer (R154). RECORD finds its lane IDLE and tunes it as a TUNE without a
profile would, with an auto-stop of 60 seconds for each minute of its duration and no LANE notice, or takes the refusal
of the tune as its outcome, with cause STREAM_MAP for CONFLICT (R155); it finds the lane in use, changes no lane, and
raises kind 7 at display 0 with outcome CONFLICT and cause LANE_BUSY (R156). That the row acts alone is THE MODEL'S
CHOICE (log entry 11). -/
def Obligations.TimersFire : Prop :=
  ∀ (t : Fin 24) (index : Word32) (s : State), s.resetHeld = false →
    let timer := s.timers[t]
    let j := index.toNat
    let due := timer.isSet = true ∧ (∀ d, timer.weekday = some d → d = j / 1440 % 7) ∧
      (∀ h, timer.hour = some h → h = j % 1440 / 60) ∧ (∀ m, timer.minute = some m → m = j % 60) ∧
      (∀ f, timer.lastFired = some f → f < j)
    let event := (s.currentEntry timer.service).map fun g => g.event
    let requested (u : State) (d : Fin 2) (kind : Fin 8) (c : PromptContext) : Prop :=
      let old := (s.arbiters[d]).entries[kind]
      let same := c.lane = old.context.lane ∧ c.service = old.context.service ∧ c.event = old.context.event
      (u.arbiters[d]).entries[kind] =
        { old with
          context := c
          state := if old.state = .inService ∨ old.state = .dismissed ∧ same then old.state else .pending } ∧
      (old.state = .inService → old.context ≠ c → Notice.prompt d ∈ u.notices ∧
        (u.arbiters[d]).report.context = true)
    (¬(s.clock.valid = true ∧ due) → exec (.timerFire t index) s = .next s) ∧
    (s.clock.valid = true → due → ∃ (u : State) (outcome : TimerOutcome) (cause : Option TimerCause),
      exec (.timerFire t index) s = .next u ∧
      u = { s with timers := u.timers, lanes := u.lanes, map := u.map, slots := u.slots,
                   arbiters := u.arbiters, notices := u.notices } ∧
      u.timers = s.timers.set t.val
        { timer with lastFired := some j, isSet := timer.repeats, lastOutcome := some outcome,
                     lastCause := cause } t.isLt ∧
      Notice.timer t ∈ u.notices ∧ (∀ i : Fin 6, Notice.lane i ∈ u.notices → Notice.lane i ∈ s.notices) ∧
      (timer.action = .remind → outcome = .fired ∧ cause = none ∧ u.lanes = s.lanes ∧ u.map = s.map ∧
        u.slots = s.slots ∧ ∀ d : Fin 2,
          (d.val = timer.display →
            requested u d 6 { service := some timer.service, event := event, timer := some t.val }) ∧
          (d.val ≠ timer.display → u.arbiters[d] = s.arbiters[d])) ∧
      (∀ i : Fin 6, timer.action = .record → i.val = timer.lane → (∀ k : Fin 6, k ≠ i → u.lanes[k] = s.lanes[k]) ∧
        let refused (o : TimerOutcome) (c : Option TimerCause) : Prop :=
          outcome = o ∧ cause = c ∧ u.lanes = s.lanes ∧ u.map = s.map ∧ u.slots = s.slots
        ((s.lanes[i]).state ≠ .idle → refused .conflict (some .laneBusy) ∧ u.arbiters[(1 : Fin 2)] = s.arbiters[(1 : Fin 2)] ∧
          requested u 0 7
            { lane := some i.val, service := some timer.service, event := event, timer := some t.val }) ∧
        ((s.lanes[i]).state = .idle →
          (s.service? timer.service = none → refused .noSuch none) ∧
          (∀ r, s.service? timer.service = some r →
            (s.carrier r.multiplex = none → refused .notCarried none) ∧
            (∀ n, s.carrier r.multiplex = some n →
              ((s.detach i).judge n r = some .conflict → refused .conflict (some .streamMap)) ∧
              ((s.detach i).judge n r = some .full → refused .full none) ∧
              ((s.detach i).judge n r = none → outcome = .fired ∧ cause = none ∧
                (s.MapSound → s.InstalledFor u i n r) ∧
                u.lanes[i] = Lane.closeGate s.lanes[i]
                  { s.lanes[i] with
                    state := .acquiring, step := some .signal, service := some timer.service, input := some n,
                    profile := none, health := 0, ticks := 0, silence := 0, signalTick := none, keyTick := none,
                    entryTick := none, errors := 0, overruns := 0, override := none,
                    autoStop := some (60 * timer.duration), copy := s.currentEntry timer.service,
                    lastChange := some .tuned, lastRefusal := none, reasons := { acquire := true } }))))))

/-! ### Outputs -/

/-- A decoder output that is FREE, with its ready line asserted and its lane's buffer FULL, takes the packet and
the buffer becomes EMPTY (R58). The recorder output takes the first FULL buffer in cyclic order after last granted,
framed with the lane's number (R59, R60). A blank order leaves as a packet on stream 8182 with its lane number (R53).
The FREE return port takes the head of the return queue while its ready line is asserted (R201). The head of the
pending list moves to the queue's tail with its snapshot while at least two places are free, at the return count, and
a PROMPT notice empties its report set at the move; otherwise nothing moves (R193, R202, R204). A port is FREE at its
last byte. That each take or move is one row, that one which does not happen only stores the sampled ready line, and
that buffers filled by one packet are granted in cyclic order are THE MODEL'S CHOICE (log entries 8, 16 and 33), as
are the bytes of a snapshot that its rule leaves open (log entries 3 and 10). -/
def Obligations.OutputsAndReturnPort : Prop :=
  (∀ (d : Fin 2) (r : Fin 4) (ready : Bool) (s : State),
    (∀ (p : Packet) (i : Fin 6), (Buffer.programme p).packet? i = some p ∧
      Buffer.blankOrder.packet? i = some (blankPacket i) ∧ (Buffer.empty).packet? i = none) ∧
    (s.resetHeld = false →
      let sampled := { s with decoderReady := s.decoderReady.set d.val ready d.isLt }
      let i := laneOfDisplay d
      (ready = false ∨ s.decoders[d] ≠ none ∨ (s.lanes[i]).buffer = .empty →
        exec (.decoderOutputTake d ready) s = .next sampled) ∧
      (∀ p, ready = true → s.decoders[d] = none → (s.lanes[i]).buffer.packet? i = some p →
        exec (.decoderOutputTake d ready) s = .next
          { sampled with
            lanes := s.lanes.set i.val { s.lanes[i] with buffer := .empty } i.isLt
            decoders := s.decoders.set d.val (some p) d.isLt })) ∧
    (s.resetHeld = false →
      let waits (k : Fin 4) : Prop := (s.lanes[recordingLane k]).buffer ≠ .empty
      let after (k : Fin 4) : Nat := (k.val + 3 - s.lastGranted.val) % 4
      let i := recordingLane r
      (ready = false ∨ s.recorder ≠ none ∨ (∀ k, ¬waits k) →
        exec (.recorderGrant ready) s = .next { s with recorderReady := ready }) ∧
      (∀ p, ready = true → s.recorder = none → (∀ k, waits k → after r ≤ after k) →
        (s.lanes[i]).buffer.packet? i = some p →
        exec (.recorderGrant ready) s = .next
          { s with
            recorderReady := ready
            lanes := s.lanes.set i.val { s.lanes[i] with buffer := .empty } i.isLt
            recorder := some { lane := r, blank := (s.lanes[i]).buffer == .blankOrder, packet := p }
            lastGranted := r })) ∧
    (exec (.sendComplete (.decoder d)) s = .next { s with decoders := s.decoders.set d.val none d.isLt } ∧
      exec (.sendComplete .recorder) s = .next { s with recorder := none } ∧
      exec (.sendComplete .returnPort) s = .next { s with returnPort := none })) ∧
  ∀ (ready : Bool) (s : State), s.resetHeld = false →
    (ready = false ∨ s.returnPort ≠ none ∨ s.returnQueue = [] →
      exec (.returnPortTake ready) s = .next { s with returnReady := ready }) ∧
    (∀ p rest, ready = true → s.returnPort = none → s.returnQueue = p :: rest →
      exec (.returnPortTake ready) s = .next
        { s with returnReady := ready, returnQueue := rest, returnPort := some p }) ∧
    (s.notices = [] ∨ 14 < s.returnQueue.length → exec .noticeMove s = .next s) ∧
    (∀ n rest, s.notices = n :: rest → s.returnQueue.length ≤ 14 →
      let moved : State :=
        { s with
          notices := rest
          returnQueue := s.returnQueue ++ [⟨s.returnCount, .notice n (encode s.draws (s.snapshot n))⟩]
          returnCount := s.returnCount + 1, draws := s.draws + 1 }
      ((∀ d, n ≠ .prompt d) → exec .noticeMove s = .next moved) ∧
      (∀ d : Fin 2, n = .prompt d → exec .noticeMove s = .next
        (moved.modArbiter d fun a => { a with report := ⟨false, false, false, []⟩ })))

end
end

