-- ==== Sys2Proof/Laws/State.lean ====
section
/-!
SUPPORT. What each named update of the state leaves unchanged, one lemma per field, and what it writes. Every
lemma holds by unfolding and is tagged for `simp`, so that no proof unfolds a record update.
-/

namespace Sys2Proof.Machine

/-! ### State.modLane -/

@[simp] theorem State.modLane_pending (s : State) (i : Fin 6) (f : Lane → Lane) : (s.modLane i f).pending = s.pending := rfl
@[simp] theorem State.modLane_resetHeld (s : State) (i : Fin 6) (f : Lane → Lane) : (s.modLane i f).resetHeld = s.resetHeld := rfl
@[simp] theorem State.modLane_inputA (s : State) (i : Fin 6) (f : Lane → Lane) : (s.modLane i f).inputA = s.inputA := rfl
@[simp] theorem State.modLane_inputB (s : State) (i : Fin 6) (f : Lane → Lane) : (s.modLane i f).inputB = s.inputB := rfl
@[simp] theorem State.modLane_map (s : State) (i : Fin 6) (f : Lane → Lane) : (s.modLane i f).map = s.map := rfl
@[simp] theorem State.modLane_keySections (s : State) (i : Fin 6) (f : Lane → Lane) : (s.modLane i f).keySections = s.keySections := rfl
@[simp] theorem State.modLane_grantSections (s : State) (i : Fin 6) (f : Lane → Lane) : (s.modLane i f).grantSections = s.grantSections := rfl
@[simp] theorem State.modLane_timeSections (s : State) (i : Fin 6) (f : Lane → Lane) : (s.modLane i f).timeSections = s.timeSections := rfl
@[simp] theorem State.modLane_guideSections (s : State) (i : Fin 6) (f : Lane → Lane) : (s.modLane i f).guideSections = s.guideSections := rfl
@[simp] theorem State.modLane_services (s : State) (i : Fin 6) (f : Lane → Lane) : (s.modLane i f).services = s.services := rfl
@[simp] theorem State.modLane_surveys (s : State) (i : Fin 6) (f : Lane → Lane) : (s.modLane i f).surveys = s.surveys := rfl
@[simp] theorem State.modLane_slots (s : State) (i : Fin 6) (f : Lane → Lane) : (s.modLane i f).slots = s.slots := rfl
@[simp] theorem State.modLane_voteDepth (s : State) (i : Fin 6) (f : Lane → Lane) : (s.modLane i f).voteDepth = s.voteDepth := rfl
@[simp] theorem State.modLane_entitlement (s : State) (i : Fin 6) (f : Lane → Lane) : (s.modLane i f).entitlement = s.entitlement := rfl
@[simp] theorem State.modLane_unitAddress (s : State) (i : Fin 6) (f : Lane → Lane) : (s.modLane i f).unitAddress = s.unitAddress := rfl
@[simp] theorem State.modLane_clock (s : State) (i : Fin 6) (f : Lane → Lane) : (s.modLane i f).clock = s.clock := rfl
@[simp] theorem State.modLane_tickPhase (s : State) (i : Fin 6) (f : Lane → Lane) : (s.modLane i f).tickPhase = s.tickPhase := rfl
@[simp] theorem State.modLane_secondTaken (s : State) (i : Fin 6) (f : Lane → Lane) : (s.modLane i f).secondTaken = s.secondTaken := rfl
@[simp] theorem State.modLane_guide (s : State) (i : Fin 6) (f : Lane → Lane) : (s.modLane i f).guide = s.guide := rfl
@[simp] theorem State.modLane_timers (s : State) (i : Fin 6) (f : Lane → Lane) : (s.modLane i f).timers = s.timers := rfl
@[simp] theorem State.modLane_profiles (s : State) (i : Fin 6) (f : Lane → Lane) : (s.modLane i f).profiles = s.profiles := rfl
@[simp] theorem State.modLane_arbiters (s : State) (i : Fin 6) (f : Lane → Lane) : (s.modLane i f).arbiters = s.arbiters := rfl
@[simp] theorem State.modLane_notices (s : State) (i : Fin 6) (f : Lane → Lane) : (s.modLane i f).notices = s.notices := rfl
@[simp] theorem State.modLane_returnQueue (s : State) (i : Fin 6) (f : Lane → Lane) : (s.modLane i f).returnQueue = s.returnQueue := rfl
@[simp] theorem State.modLane_returnCount (s : State) (i : Fin 6) (f : Lane → Lane) : (s.modLane i f).returnCount = s.returnCount := rfl
@[simp] theorem State.modLane_returnPort (s : State) (i : Fin 6) (f : Lane → Lane) : (s.modLane i f).returnPort = s.returnPort := rfl
@[simp] theorem State.modLane_decoders (s : State) (i : Fin 6) (f : Lane → Lane) : (s.modLane i f).decoders = s.decoders := rfl
@[simp] theorem State.modLane_recorder (s : State) (i : Fin 6) (f : Lane → Lane) : (s.modLane i f).recorder = s.recorder := rfl
@[simp] theorem State.modLane_lastGranted (s : State) (i : Fin 6) (f : Lane → Lane) : (s.modLane i f).lastGranted = s.lastGranted := rfl
@[simp] theorem State.modLane_decoderReady (s : State) (i : Fin 6) (f : Lane → Lane) : (s.modLane i f).decoderReady = s.decoderReady := rfl
@[simp] theorem State.modLane_recorderReady (s : State) (i : Fin 6) (f : Lane → Lane) : (s.modLane i f).recorderReady = s.recorderReady := rfl
@[simp] theorem State.modLane_returnReady (s : State) (i : Fin 6) (f : Lane → Lane) : (s.modLane i f).returnReady = s.returnReady := rfl
@[simp] theorem State.modLane_draws (s : State) (i : Fin 6) (f : Lane → Lane) : (s.modLane i f).draws = s.draws := rfl

/-! ### State.modSurvey -/

@[simp] theorem State.modSurvey_pending (s : State) (i : Fin 6) (f : SurveyTable → SurveyTable) : (s.modSurvey i f).pending = s.pending := rfl
@[simp] theorem State.modSurvey_resetHeld (s : State) (i : Fin 6) (f : SurveyTable → SurveyTable) : (s.modSurvey i f).resetHeld = s.resetHeld := rfl
@[simp] theorem State.modSurvey_inputA (s : State) (i : Fin 6) (f : SurveyTable → SurveyTable) : (s.modSurvey i f).inputA = s.inputA := rfl
@[simp] theorem State.modSurvey_inputB (s : State) (i : Fin 6) (f : SurveyTable → SurveyTable) : (s.modSurvey i f).inputB = s.inputB := rfl
@[simp] theorem State.modSurvey_map (s : State) (i : Fin 6) (f : SurveyTable → SurveyTable) : (s.modSurvey i f).map = s.map := rfl
@[simp] theorem State.modSurvey_keySections (s : State) (i : Fin 6) (f : SurveyTable → SurveyTable) : (s.modSurvey i f).keySections = s.keySections := rfl
@[simp] theorem State.modSurvey_grantSections (s : State) (i : Fin 6) (f : SurveyTable → SurveyTable) : (s.modSurvey i f).grantSections = s.grantSections := rfl
@[simp] theorem State.modSurvey_timeSections (s : State) (i : Fin 6) (f : SurveyTable → SurveyTable) : (s.modSurvey i f).timeSections = s.timeSections := rfl
@[simp] theorem State.modSurvey_guideSections (s : State) (i : Fin 6) (f : SurveyTable → SurveyTable) : (s.modSurvey i f).guideSections = s.guideSections := rfl
@[simp] theorem State.modSurvey_services (s : State) (i : Fin 6) (f : SurveyTable → SurveyTable) : (s.modSurvey i f).services = s.services := rfl
@[simp] theorem State.modSurvey_lanes (s : State) (i : Fin 6) (f : SurveyTable → SurveyTable) : (s.modSurvey i f).lanes = s.lanes := rfl
@[simp] theorem State.modSurvey_slots (s : State) (i : Fin 6) (f : SurveyTable → SurveyTable) : (s.modSurvey i f).slots = s.slots := rfl
@[simp] theorem State.modSurvey_voteDepth (s : State) (i : Fin 6) (f : SurveyTable → SurveyTable) : (s.modSurvey i f).voteDepth = s.voteDepth := rfl
@[simp] theorem State.modSurvey_entitlement (s : State) (i : Fin 6) (f : SurveyTable → SurveyTable) : (s.modSurvey i f).entitlement = s.entitlement := rfl
@[simp] theorem State.modSurvey_unitAddress (s : State) (i : Fin 6) (f : SurveyTable → SurveyTable) : (s.modSurvey i f).unitAddress = s.unitAddress := rfl
@[simp] theorem State.modSurvey_clock (s : State) (i : Fin 6) (f : SurveyTable → SurveyTable) : (s.modSurvey i f).clock = s.clock := rfl
@[simp] theorem State.modSurvey_tickPhase (s : State) (i : Fin 6) (f : SurveyTable → SurveyTable) : (s.modSurvey i f).tickPhase = s.tickPhase := rfl
@[simp] theorem State.modSurvey_secondTaken (s : State) (i : Fin 6) (f : SurveyTable → SurveyTable) : (s.modSurvey i f).secondTaken = s.secondTaken := rfl
@[simp] theorem State.modSurvey_guide (s : State) (i : Fin 6) (f : SurveyTable → SurveyTable) : (s.modSurvey i f).guide = s.guide := rfl
@[simp] theorem State.modSurvey_timers (s : State) (i : Fin 6) (f : SurveyTable → SurveyTable) : (s.modSurvey i f).timers = s.timers := rfl
@[simp] theorem State.modSurvey_profiles (s : State) (i : Fin 6) (f : SurveyTable → SurveyTable) : (s.modSurvey i f).profiles = s.profiles := rfl
@[simp] theorem State.modSurvey_arbiters (s : State) (i : Fin 6) (f : SurveyTable → SurveyTable) : (s.modSurvey i f).arbiters = s.arbiters := rfl
@[simp] theorem State.modSurvey_notices (s : State) (i : Fin 6) (f : SurveyTable → SurveyTable) : (s.modSurvey i f).notices = s.notices := rfl
@[simp] theorem State.modSurvey_returnQueue (s : State) (i : Fin 6) (f : SurveyTable → SurveyTable) : (s.modSurvey i f).returnQueue = s.returnQueue := rfl
@[simp] theorem State.modSurvey_returnCount (s : State) (i : Fin 6) (f : SurveyTable → SurveyTable) : (s.modSurvey i f).returnCount = s.returnCount := rfl
@[simp] theorem State.modSurvey_returnPort (s : State) (i : Fin 6) (f : SurveyTable → SurveyTable) : (s.modSurvey i f).returnPort = s.returnPort := rfl
@[simp] theorem State.modSurvey_decoders (s : State) (i : Fin 6) (f : SurveyTable → SurveyTable) : (s.modSurvey i f).decoders = s.decoders := rfl
@[simp] theorem State.modSurvey_recorder (s : State) (i : Fin 6) (f : SurveyTable → SurveyTable) : (s.modSurvey i f).recorder = s.recorder := rfl
@[simp] theorem State.modSurvey_lastGranted (s : State) (i : Fin 6) (f : SurveyTable → SurveyTable) : (s.modSurvey i f).lastGranted = s.lastGranted := rfl
@[simp] theorem State.modSurvey_decoderReady (s : State) (i : Fin 6) (f : SurveyTable → SurveyTable) : (s.modSurvey i f).decoderReady = s.decoderReady := rfl
@[simp] theorem State.modSurvey_recorderReady (s : State) (i : Fin 6) (f : SurveyTable → SurveyTable) : (s.modSurvey i f).recorderReady = s.recorderReady := rfl
@[simp] theorem State.modSurvey_returnReady (s : State) (i : Fin 6) (f : SurveyTable → SurveyTable) : (s.modSurvey i f).returnReady = s.returnReady := rfl
@[simp] theorem State.modSurvey_draws (s : State) (i : Fin 6) (f : SurveyTable → SurveyTable) : (s.modSurvey i f).draws = s.draws := rfl

/-! ### State.setSlot -/

@[simp] theorem State.setSlot_pending (s : State) (k : Fin 16) (r : Option KeySlot) : (s.setSlot k r).pending = s.pending := rfl
@[simp] theorem State.setSlot_resetHeld (s : State) (k : Fin 16) (r : Option KeySlot) : (s.setSlot k r).resetHeld = s.resetHeld := rfl
@[simp] theorem State.setSlot_inputA (s : State) (k : Fin 16) (r : Option KeySlot) : (s.setSlot k r).inputA = s.inputA := rfl
@[simp] theorem State.setSlot_inputB (s : State) (k : Fin 16) (r : Option KeySlot) : (s.setSlot k r).inputB = s.inputB := rfl
@[simp] theorem State.setSlot_map (s : State) (k : Fin 16) (r : Option KeySlot) : (s.setSlot k r).map = s.map := rfl
@[simp] theorem State.setSlot_keySections (s : State) (k : Fin 16) (r : Option KeySlot) : (s.setSlot k r).keySections = s.keySections := rfl
@[simp] theorem State.setSlot_grantSections (s : State) (k : Fin 16) (r : Option KeySlot) : (s.setSlot k r).grantSections = s.grantSections := rfl
@[simp] theorem State.setSlot_timeSections (s : State) (k : Fin 16) (r : Option KeySlot) : (s.setSlot k r).timeSections = s.timeSections := rfl
@[simp] theorem State.setSlot_guideSections (s : State) (k : Fin 16) (r : Option KeySlot) : (s.setSlot k r).guideSections = s.guideSections := rfl
@[simp] theorem State.setSlot_services (s : State) (k : Fin 16) (r : Option KeySlot) : (s.setSlot k r).services = s.services := rfl
@[simp] theorem State.setSlot_lanes (s : State) (k : Fin 16) (r : Option KeySlot) : (s.setSlot k r).lanes = s.lanes := rfl
@[simp] theorem State.setSlot_surveys (s : State) (k : Fin 16) (r : Option KeySlot) : (s.setSlot k r).surveys = s.surveys := rfl
@[simp] theorem State.setSlot_voteDepth (s : State) (k : Fin 16) (r : Option KeySlot) : (s.setSlot k r).voteDepth = s.voteDepth := rfl
@[simp] theorem State.setSlot_entitlement (s : State) (k : Fin 16) (r : Option KeySlot) : (s.setSlot k r).entitlement = s.entitlement := rfl
@[simp] theorem State.setSlot_unitAddress (s : State) (k : Fin 16) (r : Option KeySlot) : (s.setSlot k r).unitAddress = s.unitAddress := rfl
@[simp] theorem State.setSlot_clock (s : State) (k : Fin 16) (r : Option KeySlot) : (s.setSlot k r).clock = s.clock := rfl
@[simp] theorem State.setSlot_tickPhase (s : State) (k : Fin 16) (r : Option KeySlot) : (s.setSlot k r).tickPhase = s.tickPhase := rfl
@[simp] theorem State.setSlot_secondTaken (s : State) (k : Fin 16) (r : Option KeySlot) : (s.setSlot k r).secondTaken = s.secondTaken := rfl
@[simp] theorem State.setSlot_guide (s : State) (k : Fin 16) (r : Option KeySlot) : (s.setSlot k r).guide = s.guide := rfl
@[simp] theorem State.setSlot_timers (s : State) (k : Fin 16) (r : Option KeySlot) : (s.setSlot k r).timers = s.timers := rfl
@[simp] theorem State.setSlot_profiles (s : State) (k : Fin 16) (r : Option KeySlot) : (s.setSlot k r).profiles = s.profiles := rfl
@[simp] theorem State.setSlot_arbiters (s : State) (k : Fin 16) (r : Option KeySlot) : (s.setSlot k r).arbiters = s.arbiters := rfl
@[simp] theorem State.setSlot_notices (s : State) (k : Fin 16) (r : Option KeySlot) : (s.setSlot k r).notices = s.notices := rfl
@[simp] theorem State.setSlot_returnQueue (s : State) (k : Fin 16) (r : Option KeySlot) : (s.setSlot k r).returnQueue = s.returnQueue := rfl
@[simp] theorem State.setSlot_returnCount (s : State) (k : Fin 16) (r : Option KeySlot) : (s.setSlot k r).returnCount = s.returnCount := rfl
@[simp] theorem State.setSlot_returnPort (s : State) (k : Fin 16) (r : Option KeySlot) : (s.setSlot k r).returnPort = s.returnPort := rfl
@[simp] theorem State.setSlot_decoders (s : State) (k : Fin 16) (r : Option KeySlot) : (s.setSlot k r).decoders = s.decoders := rfl
@[simp] theorem State.setSlot_recorder (s : State) (k : Fin 16) (r : Option KeySlot) : (s.setSlot k r).recorder = s.recorder := rfl
@[simp] theorem State.setSlot_lastGranted (s : State) (k : Fin 16) (r : Option KeySlot) : (s.setSlot k r).lastGranted = s.lastGranted := rfl
@[simp] theorem State.setSlot_decoderReady (s : State) (k : Fin 16) (r : Option KeySlot) : (s.setSlot k r).decoderReady = s.decoderReady := rfl
@[simp] theorem State.setSlot_recorderReady (s : State) (k : Fin 16) (r : Option KeySlot) : (s.setSlot k r).recorderReady = s.recorderReady := rfl
@[simp] theorem State.setSlot_returnReady (s : State) (k : Fin 16) (r : Option KeySlot) : (s.setSlot k r).returnReady = s.returnReady := rfl
@[simp] theorem State.setSlot_draws (s : State) (k : Fin 16) (r : Option KeySlot) : (s.setSlot k r).draws = s.draws := rfl

/-! ### State.modSlot -/

@[simp] theorem State.modSlot_pending (s : State) (k : Fin 16) (f : KeySlot → KeySlot) : (s.modSlot k f).pending = s.pending := rfl
@[simp] theorem State.modSlot_resetHeld (s : State) (k : Fin 16) (f : KeySlot → KeySlot) : (s.modSlot k f).resetHeld = s.resetHeld := rfl
@[simp] theorem State.modSlot_inputA (s : State) (k : Fin 16) (f : KeySlot → KeySlot) : (s.modSlot k f).inputA = s.inputA := rfl
@[simp] theorem State.modSlot_inputB (s : State) (k : Fin 16) (f : KeySlot → KeySlot) : (s.modSlot k f).inputB = s.inputB := rfl
@[simp] theorem State.modSlot_map (s : State) (k : Fin 16) (f : KeySlot → KeySlot) : (s.modSlot k f).map = s.map := rfl
@[simp] theorem State.modSlot_keySections (s : State) (k : Fin 16) (f : KeySlot → KeySlot) : (s.modSlot k f).keySections = s.keySections := rfl
@[simp] theorem State.modSlot_grantSections (s : State) (k : Fin 16) (f : KeySlot → KeySlot) : (s.modSlot k f).grantSections = s.grantSections := rfl
@[simp] theorem State.modSlot_timeSections (s : State) (k : Fin 16) (f : KeySlot → KeySlot) : (s.modSlot k f).timeSections = s.timeSections := rfl
@[simp] theorem State.modSlot_guideSections (s : State) (k : Fin 16) (f : KeySlot → KeySlot) : (s.modSlot k f).guideSections = s.guideSections := rfl
@[simp] theorem State.modSlot_services (s : State) (k : Fin 16) (f : KeySlot → KeySlot) : (s.modSlot k f).services = s.services := rfl
@[simp] theorem State.modSlot_lanes (s : State) (k : Fin 16) (f : KeySlot → KeySlot) : (s.modSlot k f).lanes = s.lanes := rfl
@[simp] theorem State.modSlot_surveys (s : State) (k : Fin 16) (f : KeySlot → KeySlot) : (s.modSlot k f).surveys = s.surveys := rfl
@[simp] theorem State.modSlot_voteDepth (s : State) (k : Fin 16) (f : KeySlot → KeySlot) : (s.modSlot k f).voteDepth = s.voteDepth := rfl
@[simp] theorem State.modSlot_entitlement (s : State) (k : Fin 16) (f : KeySlot → KeySlot) : (s.modSlot k f).entitlement = s.entitlement := rfl
@[simp] theorem State.modSlot_unitAddress (s : State) (k : Fin 16) (f : KeySlot → KeySlot) : (s.modSlot k f).unitAddress = s.unitAddress := rfl
@[simp] theorem State.modSlot_clock (s : State) (k : Fin 16) (f : KeySlot → KeySlot) : (s.modSlot k f).clock = s.clock := rfl
@[simp] theorem State.modSlot_tickPhase (s : State) (k : Fin 16) (f : KeySlot → KeySlot) : (s.modSlot k f).tickPhase = s.tickPhase := rfl
@[simp] theorem State.modSlot_secondTaken (s : State) (k : Fin 16) (f : KeySlot → KeySlot) : (s.modSlot k f).secondTaken = s.secondTaken := rfl
@[simp] theorem State.modSlot_guide (s : State) (k : Fin 16) (f : KeySlot → KeySlot) : (s.modSlot k f).guide = s.guide := rfl
@[simp] theorem State.modSlot_timers (s : State) (k : Fin 16) (f : KeySlot → KeySlot) : (s.modSlot k f).timers = s.timers := rfl
@[simp] theorem State.modSlot_profiles (s : State) (k : Fin 16) (f : KeySlot → KeySlot) : (s.modSlot k f).profiles = s.profiles := rfl
@[simp] theorem State.modSlot_arbiters (s : State) (k : Fin 16) (f : KeySlot → KeySlot) : (s.modSlot k f).arbiters = s.arbiters := rfl
@[simp] theorem State.modSlot_notices (s : State) (k : Fin 16) (f : KeySlot → KeySlot) : (s.modSlot k f).notices = s.notices := rfl
@[simp] theorem State.modSlot_returnQueue (s : State) (k : Fin 16) (f : KeySlot → KeySlot) : (s.modSlot k f).returnQueue = s.returnQueue := rfl
@[simp] theorem State.modSlot_returnCount (s : State) (k : Fin 16) (f : KeySlot → KeySlot) : (s.modSlot k f).returnCount = s.returnCount := rfl
@[simp] theorem State.modSlot_returnPort (s : State) (k : Fin 16) (f : KeySlot → KeySlot) : (s.modSlot k f).returnPort = s.returnPort := rfl
@[simp] theorem State.modSlot_decoders (s : State) (k : Fin 16) (f : KeySlot → KeySlot) : (s.modSlot k f).decoders = s.decoders := rfl
@[simp] theorem State.modSlot_recorder (s : State) (k : Fin 16) (f : KeySlot → KeySlot) : (s.modSlot k f).recorder = s.recorder := rfl
@[simp] theorem State.modSlot_lastGranted (s : State) (k : Fin 16) (f : KeySlot → KeySlot) : (s.modSlot k f).lastGranted = s.lastGranted := rfl
@[simp] theorem State.modSlot_decoderReady (s : State) (k : Fin 16) (f : KeySlot → KeySlot) : (s.modSlot k f).decoderReady = s.decoderReady := rfl
@[simp] theorem State.modSlot_recorderReady (s : State) (k : Fin 16) (f : KeySlot → KeySlot) : (s.modSlot k f).recorderReady = s.recorderReady := rfl
@[simp] theorem State.modSlot_returnReady (s : State) (k : Fin 16) (f : KeySlot → KeySlot) : (s.modSlot k f).returnReady = s.returnReady := rfl
@[simp] theorem State.modSlot_draws (s : State) (k : Fin 16) (f : KeySlot → KeySlot) : (s.modSlot k f).draws = s.draws := rfl

/-! ### State.modTimer -/

@[simp] theorem State.modTimer_pending (s : State) (t : Fin 24) (f : Timer → Timer) : (s.modTimer t f).pending = s.pending := rfl
@[simp] theorem State.modTimer_resetHeld (s : State) (t : Fin 24) (f : Timer → Timer) : (s.modTimer t f).resetHeld = s.resetHeld := rfl
@[simp] theorem State.modTimer_inputA (s : State) (t : Fin 24) (f : Timer → Timer) : (s.modTimer t f).inputA = s.inputA := rfl
@[simp] theorem State.modTimer_inputB (s : State) (t : Fin 24) (f : Timer → Timer) : (s.modTimer t f).inputB = s.inputB := rfl
@[simp] theorem State.modTimer_map (s : State) (t : Fin 24) (f : Timer → Timer) : (s.modTimer t f).map = s.map := rfl
@[simp] theorem State.modTimer_keySections (s : State) (t : Fin 24) (f : Timer → Timer) : (s.modTimer t f).keySections = s.keySections := rfl
@[simp] theorem State.modTimer_grantSections (s : State) (t : Fin 24) (f : Timer → Timer) : (s.modTimer t f).grantSections = s.grantSections := rfl
@[simp] theorem State.modTimer_timeSections (s : State) (t : Fin 24) (f : Timer → Timer) : (s.modTimer t f).timeSections = s.timeSections := rfl
@[simp] theorem State.modTimer_guideSections (s : State) (t : Fin 24) (f : Timer → Timer) : (s.modTimer t f).guideSections = s.guideSections := rfl
@[simp] theorem State.modTimer_services (s : State) (t : Fin 24) (f : Timer → Timer) : (s.modTimer t f).services = s.services := rfl
@[simp] theorem State.modTimer_lanes (s : State) (t : Fin 24) (f : Timer → Timer) : (s.modTimer t f).lanes = s.lanes := rfl
@[simp] theorem State.modTimer_surveys (s : State) (t : Fin 24) (f : Timer → Timer) : (s.modTimer t f).surveys = s.surveys := rfl
@[simp] theorem State.modTimer_slots (s : State) (t : Fin 24) (f : Timer → Timer) : (s.modTimer t f).slots = s.slots := rfl
@[simp] theorem State.modTimer_voteDepth (s : State) (t : Fin 24) (f : Timer → Timer) : (s.modTimer t f).voteDepth = s.voteDepth := rfl
@[simp] theorem State.modTimer_entitlement (s : State) (t : Fin 24) (f : Timer → Timer) : (s.modTimer t f).entitlement = s.entitlement := rfl
@[simp] theorem State.modTimer_unitAddress (s : State) (t : Fin 24) (f : Timer → Timer) : (s.modTimer t f).unitAddress = s.unitAddress := rfl
@[simp] theorem State.modTimer_clock (s : State) (t : Fin 24) (f : Timer → Timer) : (s.modTimer t f).clock = s.clock := rfl
@[simp] theorem State.modTimer_tickPhase (s : State) (t : Fin 24) (f : Timer → Timer) : (s.modTimer t f).tickPhase = s.tickPhase := rfl
@[simp] theorem State.modTimer_secondTaken (s : State) (t : Fin 24) (f : Timer → Timer) : (s.modTimer t f).secondTaken = s.secondTaken := rfl
@[simp] theorem State.modTimer_guide (s : State) (t : Fin 24) (f : Timer → Timer) : (s.modTimer t f).guide = s.guide := rfl
@[simp] theorem State.modTimer_profiles (s : State) (t : Fin 24) (f : Timer → Timer) : (s.modTimer t f).profiles = s.profiles := rfl
@[simp] theorem State.modTimer_arbiters (s : State) (t : Fin 24) (f : Timer → Timer) : (s.modTimer t f).arbiters = s.arbiters := rfl
@[simp] theorem State.modTimer_notices (s : State) (t : Fin 24) (f : Timer → Timer) : (s.modTimer t f).notices = s.notices := rfl
@[simp] theorem State.modTimer_returnQueue (s : State) (t : Fin 24) (f : Timer → Timer) : (s.modTimer t f).returnQueue = s.returnQueue := rfl
@[simp] theorem State.modTimer_returnCount (s : State) (t : Fin 24) (f : Timer → Timer) : (s.modTimer t f).returnCount = s.returnCount := rfl
@[simp] theorem State.modTimer_returnPort (s : State) (t : Fin 24) (f : Timer → Timer) : (s.modTimer t f).returnPort = s.returnPort := rfl
@[simp] theorem State.modTimer_decoders (s : State) (t : Fin 24) (f : Timer → Timer) : (s.modTimer t f).decoders = s.decoders := rfl
@[simp] theorem State.modTimer_recorder (s : State) (t : Fin 24) (f : Timer → Timer) : (s.modTimer t f).recorder = s.recorder := rfl
@[simp] theorem State.modTimer_lastGranted (s : State) (t : Fin 24) (f : Timer → Timer) : (s.modTimer t f).lastGranted = s.lastGranted := rfl
@[simp] theorem State.modTimer_decoderReady (s : State) (t : Fin 24) (f : Timer → Timer) : (s.modTimer t f).decoderReady = s.decoderReady := rfl
@[simp] theorem State.modTimer_recorderReady (s : State) (t : Fin 24) (f : Timer → Timer) : (s.modTimer t f).recorderReady = s.recorderReady := rfl
@[simp] theorem State.modTimer_returnReady (s : State) (t : Fin 24) (f : Timer → Timer) : (s.modTimer t f).returnReady = s.returnReady := rfl
@[simp] theorem State.modTimer_draws (s : State) (t : Fin 24) (f : Timer → Timer) : (s.modTimer t f).draws = s.draws := rfl

/-! ### State.modProfile -/

@[simp] theorem State.modProfile_pending (s : State) (p : Fin 4) (f : Profile → Profile) : (s.modProfile p f).pending = s.pending := rfl
@[simp] theorem State.modProfile_resetHeld (s : State) (p : Fin 4) (f : Profile → Profile) : (s.modProfile p f).resetHeld = s.resetHeld := rfl
@[simp] theorem State.modProfile_inputA (s : State) (p : Fin 4) (f : Profile → Profile) : (s.modProfile p f).inputA = s.inputA := rfl
@[simp] theorem State.modProfile_inputB (s : State) (p : Fin 4) (f : Profile → Profile) : (s.modProfile p f).inputB = s.inputB := rfl
@[simp] theorem State.modProfile_map (s : State) (p : Fin 4) (f : Profile → Profile) : (s.modProfile p f).map = s.map := rfl
@[simp] theorem State.modProfile_keySections (s : State) (p : Fin 4) (f : Profile → Profile) : (s.modProfile p f).keySections = s.keySections := rfl
@[simp] theorem State.modProfile_grantSections (s : State) (p : Fin 4) (f : Profile → Profile) : (s.modProfile p f).grantSections = s.grantSections := rfl
@[simp] theorem State.modProfile_timeSections (s : State) (p : Fin 4) (f : Profile → Profile) : (s.modProfile p f).timeSections = s.timeSections := rfl
@[simp] theorem State.modProfile_guideSections (s : State) (p : Fin 4) (f : Profile → Profile) : (s.modProfile p f).guideSections = s.guideSections := rfl
@[simp] theorem State.modProfile_services (s : State) (p : Fin 4) (f : Profile → Profile) : (s.modProfile p f).services = s.services := rfl
@[simp] theorem State.modProfile_lanes (s : State) (p : Fin 4) (f : Profile → Profile) : (s.modProfile p f).lanes = s.lanes := rfl
@[simp] theorem State.modProfile_surveys (s : State) (p : Fin 4) (f : Profile → Profile) : (s.modProfile p f).surveys = s.surveys := rfl
@[simp] theorem State.modProfile_slots (s : State) (p : Fin 4) (f : Profile → Profile) : (s.modProfile p f).slots = s.slots := rfl
@[simp] theorem State.modProfile_voteDepth (s : State) (p : Fin 4) (f : Profile → Profile) : (s.modProfile p f).voteDepth = s.voteDepth := rfl
@[simp] theorem State.modProfile_entitlement (s : State) (p : Fin 4) (f : Profile → Profile) : (s.modProfile p f).entitlement = s.entitlement := rfl
@[simp] theorem State.modProfile_unitAddress (s : State) (p : Fin 4) (f : Profile → Profile) : (s.modProfile p f).unitAddress = s.unitAddress := rfl
@[simp] theorem State.modProfile_clock (s : State) (p : Fin 4) (f : Profile → Profile) : (s.modProfile p f).clock = s.clock := rfl
@[simp] theorem State.modProfile_tickPhase (s : State) (p : Fin 4) (f : Profile → Profile) : (s.modProfile p f).tickPhase = s.tickPhase := rfl
@[simp] theorem State.modProfile_secondTaken (s : State) (p : Fin 4) (f : Profile → Profile) : (s.modProfile p f).secondTaken = s.secondTaken := rfl
@[simp] theorem State.modProfile_guide (s : State) (p : Fin 4) (f : Profile → Profile) : (s.modProfile p f).guide = s.guide := rfl
@[simp] theorem State.modProfile_timers (s : State) (p : Fin 4) (f : Profile → Profile) : (s.modProfile p f).timers = s.timers := rfl
@[simp] theorem State.modProfile_arbiters (s : State) (p : Fin 4) (f : Profile → Profile) : (s.modProfile p f).arbiters = s.arbiters := rfl
@[simp] theorem State.modProfile_notices (s : State) (p : Fin 4) (f : Profile → Profile) : (s.modProfile p f).notices = s.notices := rfl
@[simp] theorem State.modProfile_returnQueue (s : State) (p : Fin 4) (f : Profile → Profile) : (s.modProfile p f).returnQueue = s.returnQueue := rfl
@[simp] theorem State.modProfile_returnCount (s : State) (p : Fin 4) (f : Profile → Profile) : (s.modProfile p f).returnCount = s.returnCount := rfl
@[simp] theorem State.modProfile_returnPort (s : State) (p : Fin 4) (f : Profile → Profile) : (s.modProfile p f).returnPort = s.returnPort := rfl
@[simp] theorem State.modProfile_decoders (s : State) (p : Fin 4) (f : Profile → Profile) : (s.modProfile p f).decoders = s.decoders := rfl
@[simp] theorem State.modProfile_recorder (s : State) (p : Fin 4) (f : Profile → Profile) : (s.modProfile p f).recorder = s.recorder := rfl
@[simp] theorem State.modProfile_lastGranted (s : State) (p : Fin 4) (f : Profile → Profile) : (s.modProfile p f).lastGranted = s.lastGranted := rfl
@[simp] theorem State.modProfile_decoderReady (s : State) (p : Fin 4) (f : Profile → Profile) : (s.modProfile p f).decoderReady = s.decoderReady := rfl
@[simp] theorem State.modProfile_recorderReady (s : State) (p : Fin 4) (f : Profile → Profile) : (s.modProfile p f).recorderReady = s.recorderReady := rfl
@[simp] theorem State.modProfile_returnReady (s : State) (p : Fin 4) (f : Profile → Profile) : (s.modProfile p f).returnReady = s.returnReady := rfl
@[simp] theorem State.modProfile_draws (s : State) (p : Fin 4) (f : Profile → Profile) : (s.modProfile p f).draws = s.draws := rfl

/-! ### State.modArbiter -/

@[simp] theorem State.modArbiter_pending (s : State) (d : Fin 2) (f : Arbiter → Arbiter) : (s.modArbiter d f).pending = s.pending := rfl
@[simp] theorem State.modArbiter_resetHeld (s : State) (d : Fin 2) (f : Arbiter → Arbiter) : (s.modArbiter d f).resetHeld = s.resetHeld := rfl
@[simp] theorem State.modArbiter_inputA (s : State) (d : Fin 2) (f : Arbiter → Arbiter) : (s.modArbiter d f).inputA = s.inputA := rfl
@[simp] theorem State.modArbiter_inputB (s : State) (d : Fin 2) (f : Arbiter → Arbiter) : (s.modArbiter d f).inputB = s.inputB := rfl
@[simp] theorem State.modArbiter_map (s : State) (d : Fin 2) (f : Arbiter → Arbiter) : (s.modArbiter d f).map = s.map := rfl
@[simp] theorem State.modArbiter_keySections (s : State) (d : Fin 2) (f : Arbiter → Arbiter) : (s.modArbiter d f).keySections = s.keySections := rfl
@[simp] theorem State.modArbiter_grantSections (s : State) (d : Fin 2) (f : Arbiter → Arbiter) : (s.modArbiter d f).grantSections = s.grantSections := rfl
@[simp] theorem State.modArbiter_timeSections (s : State) (d : Fin 2) (f : Arbiter → Arbiter) : (s.modArbiter d f).timeSections = s.timeSections := rfl
@[simp] theorem State.modArbiter_guideSections (s : State) (d : Fin 2) (f : Arbiter → Arbiter) : (s.modArbiter d f).guideSections = s.guideSections := rfl
@[simp] theorem State.modArbiter_services (s : State) (d : Fin 2) (f : Arbiter → Arbiter) : (s.modArbiter d f).services = s.services := rfl
@[simp] theorem State.modArbiter_lanes (s : State) (d : Fin 2) (f : Arbiter → Arbiter) : (s.modArbiter d f).lanes = s.lanes := rfl
@[simp] theorem State.modArbiter_surveys (s : State) (d : Fin 2) (f : Arbiter → Arbiter) : (s.modArbiter d f).surveys = s.surveys := rfl
@[simp] theorem State.modArbiter_slots (s : State) (d : Fin 2) (f : Arbiter → Arbiter) : (s.modArbiter d f).slots = s.slots := rfl
@[simp] theorem State.modArbiter_voteDepth (s : State) (d : Fin 2) (f : Arbiter → Arbiter) : (s.modArbiter d f).voteDepth = s.voteDepth := rfl
@[simp] theorem State.modArbiter_entitlement (s : State) (d : Fin 2) (f : Arbiter → Arbiter) : (s.modArbiter d f).entitlement = s.entitlement := rfl
@[simp] theorem State.modArbiter_unitAddress (s : State) (d : Fin 2) (f : Arbiter → Arbiter) : (s.modArbiter d f).unitAddress = s.unitAddress := rfl
@[simp] theorem State.modArbiter_clock (s : State) (d : Fin 2) (f : Arbiter → Arbiter) : (s.modArbiter d f).clock = s.clock := rfl
@[simp] theorem State.modArbiter_tickPhase (s : State) (d : Fin 2) (f : Arbiter → Arbiter) : (s.modArbiter d f).tickPhase = s.tickPhase := rfl
@[simp] theorem State.modArbiter_secondTaken (s : State) (d : Fin 2) (f : Arbiter → Arbiter) : (s.modArbiter d f).secondTaken = s.secondTaken := rfl
@[simp] theorem State.modArbiter_guide (s : State) (d : Fin 2) (f : Arbiter → Arbiter) : (s.modArbiter d f).guide = s.guide := rfl
@[simp] theorem State.modArbiter_timers (s : State) (d : Fin 2) (f : Arbiter → Arbiter) : (s.modArbiter d f).timers = s.timers := rfl
@[simp] theorem State.modArbiter_profiles (s : State) (d : Fin 2) (f : Arbiter → Arbiter) : (s.modArbiter d f).profiles = s.profiles := rfl
@[simp] theorem State.modArbiter_notices (s : State) (d : Fin 2) (f : Arbiter → Arbiter) : (s.modArbiter d f).notices = s.notices := rfl
@[simp] theorem State.modArbiter_returnQueue (s : State) (d : Fin 2) (f : Arbiter → Arbiter) : (s.modArbiter d f).returnQueue = s.returnQueue := rfl
@[simp] theorem State.modArbiter_returnCount (s : State) (d : Fin 2) (f : Arbiter → Arbiter) : (s.modArbiter d f).returnCount = s.returnCount := rfl
@[simp] theorem State.modArbiter_returnPort (s : State) (d : Fin 2) (f : Arbiter → Arbiter) : (s.modArbiter d f).returnPort = s.returnPort := rfl
@[simp] theorem State.modArbiter_decoders (s : State) (d : Fin 2) (f : Arbiter → Arbiter) : (s.modArbiter d f).decoders = s.decoders := rfl
@[simp] theorem State.modArbiter_recorder (s : State) (d : Fin 2) (f : Arbiter → Arbiter) : (s.modArbiter d f).recorder = s.recorder := rfl
@[simp] theorem State.modArbiter_lastGranted (s : State) (d : Fin 2) (f : Arbiter → Arbiter) : (s.modArbiter d f).lastGranted = s.lastGranted := rfl
@[simp] theorem State.modArbiter_decoderReady (s : State) (d : Fin 2) (f : Arbiter → Arbiter) : (s.modArbiter d f).decoderReady = s.decoderReady := rfl
@[simp] theorem State.modArbiter_recorderReady (s : State) (d : Fin 2) (f : Arbiter → Arbiter) : (s.modArbiter d f).recorderReady = s.recorderReady := rfl
@[simp] theorem State.modArbiter_returnReady (s : State) (d : Fin 2) (f : Arbiter → Arbiter) : (s.modArbiter d f).returnReady = s.returnReady := rfl
@[simp] theorem State.modArbiter_draws (s : State) (d : Fin 2) (f : Arbiter → Arbiter) : (s.modArbiter d f).draws = s.draws := rfl

/-! ### State.modInput -/

@[simp] theorem State.modInput_pending (s : State) (n : Input) (f : InputState → InputState) : (s.modInput n f).pending = s.pending := by cases n <;> rfl
@[simp] theorem State.modInput_resetHeld (s : State) (n : Input) (f : InputState → InputState) : (s.modInput n f).resetHeld = s.resetHeld := by cases n <;> rfl
@[simp] theorem State.modInput_map (s : State) (n : Input) (f : InputState → InputState) : (s.modInput n f).map = s.map := by cases n <;> rfl
@[simp] theorem State.modInput_keySections (s : State) (n : Input) (f : InputState → InputState) : (s.modInput n f).keySections = s.keySections := by cases n <;> rfl
@[simp] theorem State.modInput_grantSections (s : State) (n : Input) (f : InputState → InputState) : (s.modInput n f).grantSections = s.grantSections := by cases n <;> rfl
@[simp] theorem State.modInput_timeSections (s : State) (n : Input) (f : InputState → InputState) : (s.modInput n f).timeSections = s.timeSections := by cases n <;> rfl
@[simp] theorem State.modInput_guideSections (s : State) (n : Input) (f : InputState → InputState) : (s.modInput n f).guideSections = s.guideSections := by cases n <;> rfl
@[simp] theorem State.modInput_services (s : State) (n : Input) (f : InputState → InputState) : (s.modInput n f).services = s.services := by cases n <;> rfl
@[simp] theorem State.modInput_lanes (s : State) (n : Input) (f : InputState → InputState) : (s.modInput n f).lanes = s.lanes := by cases n <;> rfl
@[simp] theorem State.modInput_surveys (s : State) (n : Input) (f : InputState → InputState) : (s.modInput n f).surveys = s.surveys := by cases n <;> rfl
@[simp] theorem State.modInput_slots (s : State) (n : Input) (f : InputState → InputState) : (s.modInput n f).slots = s.slots := by cases n <;> rfl
@[simp] theorem State.modInput_voteDepth (s : State) (n : Input) (f : InputState → InputState) : (s.modInput n f).voteDepth = s.voteDepth := by cases n <;> rfl
@[simp] theorem State.modInput_entitlement (s : State) (n : Input) (f : InputState → InputState) : (s.modInput n f).entitlement = s.entitlement := by cases n <;> rfl
@[simp] theorem State.modInput_unitAddress (s : State) (n : Input) (f : InputState → InputState) : (s.modInput n f).unitAddress = s.unitAddress := by cases n <;> rfl
@[simp] theorem State.modInput_clock (s : State) (n : Input) (f : InputState → InputState) : (s.modInput n f).clock = s.clock := by cases n <;> rfl
@[simp] theorem State.modInput_tickPhase (s : State) (n : Input) (f : InputState → InputState) : (s.modInput n f).tickPhase = s.tickPhase := by cases n <;> rfl
@[simp] theorem State.modInput_secondTaken (s : State) (n : Input) (f : InputState → InputState) : (s.modInput n f).secondTaken = s.secondTaken := by cases n <;> rfl
@[simp] theorem State.modInput_guide (s : State) (n : Input) (f : InputState → InputState) : (s.modInput n f).guide = s.guide := by cases n <;> rfl
@[simp] theorem State.modInput_timers (s : State) (n : Input) (f : InputState → InputState) : (s.modInput n f).timers = s.timers := by cases n <;> rfl
@[simp] theorem State.modInput_profiles (s : State) (n : Input) (f : InputState → InputState) : (s.modInput n f).profiles = s.profiles := by cases n <;> rfl
@[simp] theorem State.modInput_arbiters (s : State) (n : Input) (f : InputState → InputState) : (s.modInput n f).arbiters = s.arbiters := by cases n <;> rfl
@[simp] theorem State.modInput_notices (s : State) (n : Input) (f : InputState → InputState) : (s.modInput n f).notices = s.notices := by cases n <;> rfl
@[simp] theorem State.modInput_returnQueue (s : State) (n : Input) (f : InputState → InputState) : (s.modInput n f).returnQueue = s.returnQueue := by cases n <;> rfl
@[simp] theorem State.modInput_returnCount (s : State) (n : Input) (f : InputState → InputState) : (s.modInput n f).returnCount = s.returnCount := by cases n <;> rfl
@[simp] theorem State.modInput_returnPort (s : State) (n : Input) (f : InputState → InputState) : (s.modInput n f).returnPort = s.returnPort := by cases n <;> rfl
@[simp] theorem State.modInput_decoders (s : State) (n : Input) (f : InputState → InputState) : (s.modInput n f).decoders = s.decoders := by cases n <;> rfl
@[simp] theorem State.modInput_recorder (s : State) (n : Input) (f : InputState → InputState) : (s.modInput n f).recorder = s.recorder := by cases n <;> rfl
@[simp] theorem State.modInput_lastGranted (s : State) (n : Input) (f : InputState → InputState) : (s.modInput n f).lastGranted = s.lastGranted := by cases n <;> rfl
@[simp] theorem State.modInput_decoderReady (s : State) (n : Input) (f : InputState → InputState) : (s.modInput n f).decoderReady = s.decoderReady := by cases n <;> rfl
@[simp] theorem State.modInput_recorderReady (s : State) (n : Input) (f : InputState → InputState) : (s.modInput n f).recorderReady = s.recorderReady := by cases n <;> rfl
@[simp] theorem State.modInput_returnReady (s : State) (n : Input) (f : InputState → InputState) : (s.modInput n f).returnReady = s.returnReady := by cases n <;> rfl
@[simp] theorem State.modInput_draws (s : State) (n : Input) (f : InputState → InputState) : (s.modInput n f).draws = s.draws := by cases n <;> rfl

/-! ### State.modSectionRecord -/

@[simp] theorem State.modSectionRecord_pending (s : State) (k : SectionKind) (f : SectionRecord → SectionRecord) : (s.modSectionRecord k f).pending = s.pending := by cases k <;> rfl
@[simp] theorem State.modSectionRecord_resetHeld (s : State) (k : SectionKind) (f : SectionRecord → SectionRecord) : (s.modSectionRecord k f).resetHeld = s.resetHeld := by cases k <;> rfl
@[simp] theorem State.modSectionRecord_inputA (s : State) (k : SectionKind) (f : SectionRecord → SectionRecord) : (s.modSectionRecord k f).inputA = s.inputA := by cases k <;> rfl
@[simp] theorem State.modSectionRecord_inputB (s : State) (k : SectionKind) (f : SectionRecord → SectionRecord) : (s.modSectionRecord k f).inputB = s.inputB := by cases k <;> rfl
@[simp] theorem State.modSectionRecord_map (s : State) (k : SectionKind) (f : SectionRecord → SectionRecord) : (s.modSectionRecord k f).map = s.map := by cases k <;> rfl
@[simp] theorem State.modSectionRecord_services (s : State) (k : SectionKind) (f : SectionRecord → SectionRecord) : (s.modSectionRecord k f).services = s.services := by cases k <;> rfl
@[simp] theorem State.modSectionRecord_lanes (s : State) (k : SectionKind) (f : SectionRecord → SectionRecord) : (s.modSectionRecord k f).lanes = s.lanes := by cases k <;> rfl
@[simp] theorem State.modSectionRecord_surveys (s : State) (k : SectionKind) (f : SectionRecord → SectionRecord) : (s.modSectionRecord k f).surveys = s.surveys := by cases k <;> rfl
@[simp] theorem State.modSectionRecord_slots (s : State) (k : SectionKind) (f : SectionRecord → SectionRecord) : (s.modSectionRecord k f).slots = s.slots := by cases k <;> rfl
@[simp] theorem State.modSectionRecord_voteDepth (s : State) (k : SectionKind) (f : SectionRecord → SectionRecord) : (s.modSectionRecord k f).voteDepth = s.voteDepth := by cases k <;> rfl
@[simp] theorem State.modSectionRecord_entitlement (s : State) (k : SectionKind) (f : SectionRecord → SectionRecord) : (s.modSectionRecord k f).entitlement = s.entitlement := by cases k <;> rfl
@[simp] theorem State.modSectionRecord_unitAddress (s : State) (k : SectionKind) (f : SectionRecord → SectionRecord) : (s.modSectionRecord k f).unitAddress = s.unitAddress := by cases k <;> rfl
@[simp] theorem State.modSectionRecord_clock (s : State) (k : SectionKind) (f : SectionRecord → SectionRecord) : (s.modSectionRecord k f).clock = s.clock := by cases k <;> rfl
@[simp] theorem State.modSectionRecord_tickPhase (s : State) (k : SectionKind) (f : SectionRecord → SectionRecord) : (s.modSectionRecord k f).tickPhase = s.tickPhase := by cases k <;> rfl
@[simp] theorem State.modSectionRecord_secondTaken (s : State) (k : SectionKind) (f : SectionRecord → SectionRecord) : (s.modSectionRecord k f).secondTaken = s.secondTaken := by cases k <;> rfl
@[simp] theorem State.modSectionRecord_guide (s : State) (k : SectionKind) (f : SectionRecord → SectionRecord) : (s.modSectionRecord k f).guide = s.guide := by cases k <;> rfl
@[simp] theorem State.modSectionRecord_timers (s : State) (k : SectionKind) (f : SectionRecord → SectionRecord) : (s.modSectionRecord k f).timers = s.timers := by cases k <;> rfl
@[simp] theorem State.modSectionRecord_profiles (s : State) (k : SectionKind) (f : SectionRecord → SectionRecord) : (s.modSectionRecord k f).profiles = s.profiles := by cases k <;> rfl
@[simp] theorem State.modSectionRecord_arbiters (s : State) (k : SectionKind) (f : SectionRecord → SectionRecord) : (s.modSectionRecord k f).arbiters = s.arbiters := by cases k <;> rfl
@[simp] theorem State.modSectionRecord_notices (s : State) (k : SectionKind) (f : SectionRecord → SectionRecord) : (s.modSectionRecord k f).notices = s.notices := by cases k <;> rfl
@[simp] theorem State.modSectionRecord_returnQueue (s : State) (k : SectionKind) (f : SectionRecord → SectionRecord) : (s.modSectionRecord k f).returnQueue = s.returnQueue := by cases k <;> rfl
@[simp] theorem State.modSectionRecord_returnCount (s : State) (k : SectionKind) (f : SectionRecord → SectionRecord) : (s.modSectionRecord k f).returnCount = s.returnCount := by cases k <;> rfl
@[simp] theorem State.modSectionRecord_returnPort (s : State) (k : SectionKind) (f : SectionRecord → SectionRecord) : (s.modSectionRecord k f).returnPort = s.returnPort := by cases k <;> rfl
@[simp] theorem State.modSectionRecord_decoders (s : State) (k : SectionKind) (f : SectionRecord → SectionRecord) : (s.modSectionRecord k f).decoders = s.decoders := by cases k <;> rfl
@[simp] theorem State.modSectionRecord_recorder (s : State) (k : SectionKind) (f : SectionRecord → SectionRecord) : (s.modSectionRecord k f).recorder = s.recorder := by cases k <;> rfl
@[simp] theorem State.modSectionRecord_lastGranted (s : State) (k : SectionKind) (f : SectionRecord → SectionRecord) : (s.modSectionRecord k f).lastGranted = s.lastGranted := by cases k <;> rfl
@[simp] theorem State.modSectionRecord_decoderReady (s : State) (k : SectionKind) (f : SectionRecord → SectionRecord) : (s.modSectionRecord k f).decoderReady = s.decoderReady := by cases k <;> rfl
@[simp] theorem State.modSectionRecord_recorderReady (s : State) (k : SectionKind) (f : SectionRecord → SectionRecord) : (s.modSectionRecord k f).recorderReady = s.recorderReady := by cases k <;> rfl
@[simp] theorem State.modSectionRecord_returnReady (s : State) (k : SectionKind) (f : SectionRecord → SectionRecord) : (s.modSectionRecord k f).returnReady = s.returnReady := by cases k <;> rfl
@[simp] theorem State.modSectionRecord_draws (s : State) (k : SectionKind) (f : SectionRecord → SectionRecord) : (s.modSectionRecord k f).draws = s.draws := by cases k <;> rfl

/-! ### State.modClock -/

@[simp] theorem State.modClock_pending (s : State) (f : Clock → Clock) : (s.modClock f).pending = s.pending := rfl
@[simp] theorem State.modClock_resetHeld (s : State) (f : Clock → Clock) : (s.modClock f).resetHeld = s.resetHeld := rfl
@[simp] theorem State.modClock_inputA (s : State) (f : Clock → Clock) : (s.modClock f).inputA = s.inputA := rfl
@[simp] theorem State.modClock_inputB (s : State) (f : Clock → Clock) : (s.modClock f).inputB = s.inputB := rfl
@[simp] theorem State.modClock_map (s : State) (f : Clock → Clock) : (s.modClock f).map = s.map := rfl
@[simp] theorem State.modClock_keySections (s : State) (f : Clock → Clock) : (s.modClock f).keySections = s.keySections := rfl
@[simp] theorem State.modClock_grantSections (s : State) (f : Clock → Clock) : (s.modClock f).grantSections = s.grantSections := rfl
@[simp] theorem State.modClock_timeSections (s : State) (f : Clock → Clock) : (s.modClock f).timeSections = s.timeSections := rfl
@[simp] theorem State.modClock_guideSections (s : State) (f : Clock → Clock) : (s.modClock f).guideSections = s.guideSections := rfl
@[simp] theorem State.modClock_services (s : State) (f : Clock → Clock) : (s.modClock f).services = s.services := rfl
@[simp] theorem State.modClock_lanes (s : State) (f : Clock → Clock) : (s.modClock f).lanes = s.lanes := rfl
@[simp] theorem State.modClock_surveys (s : State) (f : Clock → Clock) : (s.modClock f).surveys = s.surveys := rfl
@[simp] theorem State.modClock_slots (s : State) (f : Clock → Clock) : (s.modClock f).slots = s.slots := rfl
@[simp] theorem State.modClock_voteDepth (s : State) (f : Clock → Clock) : (s.modClock f).voteDepth = s.voteDepth := rfl
@[simp] theorem State.modClock_entitlement (s : State) (f : Clock → Clock) : (s.modClock f).entitlement = s.entitlement := rfl
@[simp] theorem State.modClock_unitAddress (s : State) (f : Clock → Clock) : (s.modClock f).unitAddress = s.unitAddress := rfl
@[simp] theorem State.modClock_tickPhase (s : State) (f : Clock → Clock) : (s.modClock f).tickPhase = s.tickPhase := rfl
@[simp] theorem State.modClock_secondTaken (s : State) (f : Clock → Clock) : (s.modClock f).secondTaken = s.secondTaken := rfl
@[simp] theorem State.modClock_guide (s : State) (f : Clock → Clock) : (s.modClock f).guide = s.guide := rfl
@[simp] theorem State.modClock_timers (s : State) (f : Clock → Clock) : (s.modClock f).timers = s.timers := rfl
@[simp] theorem State.modClock_profiles (s : State) (f : Clock → Clock) : (s.modClock f).profiles = s.profiles := rfl
@[simp] theorem State.modClock_arbiters (s : State) (f : Clock → Clock) : (s.modClock f).arbiters = s.arbiters := rfl
@[simp] theorem State.modClock_notices (s : State) (f : Clock → Clock) : (s.modClock f).notices = s.notices := rfl
@[simp] theorem State.modClock_returnQueue (s : State) (f : Clock → Clock) : (s.modClock f).returnQueue = s.returnQueue := rfl
@[simp] theorem State.modClock_returnCount (s : State) (f : Clock → Clock) : (s.modClock f).returnCount = s.returnCount := rfl
@[simp] theorem State.modClock_returnPort (s : State) (f : Clock → Clock) : (s.modClock f).returnPort = s.returnPort := rfl
@[simp] theorem State.modClock_decoders (s : State) (f : Clock → Clock) : (s.modClock f).decoders = s.decoders := rfl
@[simp] theorem State.modClock_recorder (s : State) (f : Clock → Clock) : (s.modClock f).recorder = s.recorder := rfl
@[simp] theorem State.modClock_lastGranted (s : State) (f : Clock → Clock) : (s.modClock f).lastGranted = s.lastGranted := rfl
@[simp] theorem State.modClock_decoderReady (s : State) (f : Clock → Clock) : (s.modClock f).decoderReady = s.decoderReady := rfl
@[simp] theorem State.modClock_recorderReady (s : State) (f : Clock → Clock) : (s.modClock f).recorderReady = s.recorderReady := rfl
@[simp] theorem State.modClock_returnReady (s : State) (f : Clock → Clock) : (s.modClock f).returnReady = s.returnReady := rfl
@[simp] theorem State.modClock_draws (s : State) (f : Clock → Clock) : (s.modClock f).draws = s.draws := rfl

/-! ### State.setGrants -/

@[simp] theorem State.setGrants_pending (s : State) (gs : List Grant) : (s.setGrants gs).pending = s.pending := rfl
@[simp] theorem State.setGrants_resetHeld (s : State) (gs : List Grant) : (s.setGrants gs).resetHeld = s.resetHeld := rfl
@[simp] theorem State.setGrants_inputA (s : State) (gs : List Grant) : (s.setGrants gs).inputA = s.inputA := rfl
@[simp] theorem State.setGrants_inputB (s : State) (gs : List Grant) : (s.setGrants gs).inputB = s.inputB := rfl
@[simp] theorem State.setGrants_map (s : State) (gs : List Grant) : (s.setGrants gs).map = s.map := rfl
@[simp] theorem State.setGrants_keySections (s : State) (gs : List Grant) : (s.setGrants gs).keySections = s.keySections := rfl
@[simp] theorem State.setGrants_grantSections (s : State) (gs : List Grant) : (s.setGrants gs).grantSections = s.grantSections := rfl
@[simp] theorem State.setGrants_timeSections (s : State) (gs : List Grant) : (s.setGrants gs).timeSections = s.timeSections := rfl
@[simp] theorem State.setGrants_guideSections (s : State) (gs : List Grant) : (s.setGrants gs).guideSections = s.guideSections := rfl
@[simp] theorem State.setGrants_services (s : State) (gs : List Grant) : (s.setGrants gs).services = s.services := rfl
@[simp] theorem State.setGrants_lanes (s : State) (gs : List Grant) : (s.setGrants gs).lanes = s.lanes := rfl
@[simp] theorem State.setGrants_surveys (s : State) (gs : List Grant) : (s.setGrants gs).surveys = s.surveys := rfl
@[simp] theorem State.setGrants_slots (s : State) (gs : List Grant) : (s.setGrants gs).slots = s.slots := rfl
@[simp] theorem State.setGrants_voteDepth (s : State) (gs : List Grant) : (s.setGrants gs).voteDepth = s.voteDepth := rfl
@[simp] theorem State.setGrants_unitAddress (s : State) (gs : List Grant) : (s.setGrants gs).unitAddress = s.unitAddress := rfl
@[simp] theorem State.setGrants_clock (s : State) (gs : List Grant) : (s.setGrants gs).clock = s.clock := rfl
@[simp] theorem State.setGrants_tickPhase (s : State) (gs : List Grant) : (s.setGrants gs).tickPhase = s.tickPhase := rfl
@[simp] theorem State.setGrants_secondTaken (s : State) (gs : List Grant) : (s.setGrants gs).secondTaken = s.secondTaken := rfl
@[simp] theorem State.setGrants_guide (s : State) (gs : List Grant) : (s.setGrants gs).guide = s.guide := rfl
@[simp] theorem State.setGrants_timers (s : State) (gs : List Grant) : (s.setGrants gs).timers = s.timers := rfl
@[simp] theorem State.setGrants_profiles (s : State) (gs : List Grant) : (s.setGrants gs).profiles = s.profiles := rfl
@[simp] theorem State.setGrants_arbiters (s : State) (gs : List Grant) : (s.setGrants gs).arbiters = s.arbiters := rfl
@[simp] theorem State.setGrants_notices (s : State) (gs : List Grant) : (s.setGrants gs).notices = s.notices := rfl
@[simp] theorem State.setGrants_returnQueue (s : State) (gs : List Grant) : (s.setGrants gs).returnQueue = s.returnQueue := rfl
@[simp] theorem State.setGrants_returnCount (s : State) (gs : List Grant) : (s.setGrants gs).returnCount = s.returnCount := rfl
@[simp] theorem State.setGrants_returnPort (s : State) (gs : List Grant) : (s.setGrants gs).returnPort = s.returnPort := rfl
@[simp] theorem State.setGrants_decoders (s : State) (gs : List Grant) : (s.setGrants gs).decoders = s.decoders := rfl
@[simp] theorem State.setGrants_recorder (s : State) (gs : List Grant) : (s.setGrants gs).recorder = s.recorder := rfl
@[simp] theorem State.setGrants_lastGranted (s : State) (gs : List Grant) : (s.setGrants gs).lastGranted = s.lastGranted := rfl
@[simp] theorem State.setGrants_decoderReady (s : State) (gs : List Grant) : (s.setGrants gs).decoderReady = s.decoderReady := rfl
@[simp] theorem State.setGrants_recorderReady (s : State) (gs : List Grant) : (s.setGrants gs).recorderReady = s.recorderReady := rfl
@[simp] theorem State.setGrants_returnReady (s : State) (gs : List Grant) : (s.setGrants gs).returnReady = s.returnReady := rfl
@[simp] theorem State.setGrants_draws (s : State) (gs : List Grant) : (s.setGrants gs).draws = s.draws := rfl

/-! ### State.rescan -/

@[simp] theorem State.rescan_pending (s : State) : (s.rescan).pending = s.pending := by simp only [State.rescan]
@[simp] theorem State.rescan_resetHeld (s : State) : (s.rescan).resetHeld = s.resetHeld := by simp only [State.rescan]
@[simp] theorem State.rescan_inputA (s : State) : (s.rescan).inputA = s.inputA := by simp only [State.rescan]
@[simp] theorem State.rescan_inputB (s : State) : (s.rescan).inputB = s.inputB := by simp only [State.rescan]
@[simp] theorem State.rescan_map (s : State) : (s.rescan).map = s.map := by simp only [State.rescan]
@[simp] theorem State.rescan_keySections (s : State) : (s.rescan).keySections = s.keySections := by simp only [State.rescan]
@[simp] theorem State.rescan_grantSections (s : State) : (s.rescan).grantSections = s.grantSections := by simp only [State.rescan]
@[simp] theorem State.rescan_timeSections (s : State) : (s.rescan).timeSections = s.timeSections := by simp only [State.rescan]
@[simp] theorem State.rescan_guideSections (s : State) : (s.rescan).guideSections = s.guideSections := by simp only [State.rescan]
@[simp] theorem State.rescan_services (s : State) : (s.rescan).services = s.services := by simp only [State.rescan]
@[simp] theorem State.rescan_lanes (s : State) : (s.rescan).lanes = s.lanes := by simp only [State.rescan]
@[simp] theorem State.rescan_surveys (s : State) : (s.rescan).surveys = s.surveys := by simp only [State.rescan]
@[simp] theorem State.rescan_voteDepth (s : State) : (s.rescan).voteDepth = s.voteDepth := by simp only [State.rescan]
@[simp] theorem State.rescan_entitlement (s : State) : (s.rescan).entitlement = s.entitlement := by simp only [State.rescan]
@[simp] theorem State.rescan_unitAddress (s : State) : (s.rescan).unitAddress = s.unitAddress := by simp only [State.rescan]
@[simp] theorem State.rescan_clock (s : State) : (s.rescan).clock = s.clock := by simp only [State.rescan]
@[simp] theorem State.rescan_tickPhase (s : State) : (s.rescan).tickPhase = s.tickPhase := by simp only [State.rescan]
@[simp] theorem State.rescan_secondTaken (s : State) : (s.rescan).secondTaken = s.secondTaken := by simp only [State.rescan]
@[simp] theorem State.rescan_guide (s : State) : (s.rescan).guide = s.guide := by simp only [State.rescan]
@[simp] theorem State.rescan_timers (s : State) : (s.rescan).timers = s.timers := by simp only [State.rescan]
@[simp] theorem State.rescan_profiles (s : State) : (s.rescan).profiles = s.profiles := by simp only [State.rescan]
@[simp] theorem State.rescan_arbiters (s : State) : (s.rescan).arbiters = s.arbiters := by simp only [State.rescan]
@[simp] theorem State.rescan_notices (s : State) : (s.rescan).notices = s.notices := by simp only [State.rescan]
@[simp] theorem State.rescan_returnQueue (s : State) : (s.rescan).returnQueue = s.returnQueue := by simp only [State.rescan]
@[simp] theorem State.rescan_returnCount (s : State) : (s.rescan).returnCount = s.returnCount := by simp only [State.rescan]
@[simp] theorem State.rescan_returnPort (s : State) : (s.rescan).returnPort = s.returnPort := by simp only [State.rescan]
@[simp] theorem State.rescan_decoders (s : State) : (s.rescan).decoders = s.decoders := by simp only [State.rescan]
@[simp] theorem State.rescan_recorder (s : State) : (s.rescan).recorder = s.recorder := by simp only [State.rescan]
@[simp] theorem State.rescan_lastGranted (s : State) : (s.rescan).lastGranted = s.lastGranted := by simp only [State.rescan]
@[simp] theorem State.rescan_decoderReady (s : State) : (s.rescan).decoderReady = s.decoderReady := by simp only [State.rescan]
@[simp] theorem State.rescan_recorderReady (s : State) : (s.rescan).recorderReady = s.recorderReady := by simp only [State.rescan]
@[simp] theorem State.rescan_returnReady (s : State) : (s.rescan).returnReady = s.returnReady := by simp only [State.rescan]
@[simp] theorem State.rescan_draws (s : State) : (s.rescan).draws = s.draws := by simp only [State.rescan]

/-! ### State.modEntry -/

@[simp] theorem State.modEntry_pending (s : State) (n : Input) (stream : Nat) (f : MapEntry → MapEntry) : (s.modEntry n stream f).pending = s.pending := rfl
@[simp] theorem State.modEntry_resetHeld (s : State) (n : Input) (stream : Nat) (f : MapEntry → MapEntry) : (s.modEntry n stream f).resetHeld = s.resetHeld := rfl
@[simp] theorem State.modEntry_inputA (s : State) (n : Input) (stream : Nat) (f : MapEntry → MapEntry) : (s.modEntry n stream f).inputA = s.inputA := rfl
@[simp] theorem State.modEntry_inputB (s : State) (n : Input) (stream : Nat) (f : MapEntry → MapEntry) : (s.modEntry n stream f).inputB = s.inputB := rfl
@[simp] theorem State.modEntry_keySections (s : State) (n : Input) (stream : Nat) (f : MapEntry → MapEntry) : (s.modEntry n stream f).keySections = s.keySections := rfl
@[simp] theorem State.modEntry_grantSections (s : State) (n : Input) (stream : Nat) (f : MapEntry → MapEntry) : (s.modEntry n stream f).grantSections = s.grantSections := rfl
@[simp] theorem State.modEntry_timeSections (s : State) (n : Input) (stream : Nat) (f : MapEntry → MapEntry) : (s.modEntry n stream f).timeSections = s.timeSections := rfl
@[simp] theorem State.modEntry_guideSections (s : State) (n : Input) (stream : Nat) (f : MapEntry → MapEntry) : (s.modEntry n stream f).guideSections = s.guideSections := rfl
@[simp] theorem State.modEntry_services (s : State) (n : Input) (stream : Nat) (f : MapEntry → MapEntry) : (s.modEntry n stream f).services = s.services := rfl
@[simp] theorem State.modEntry_lanes (s : State) (n : Input) (stream : Nat) (f : MapEntry → MapEntry) : (s.modEntry n stream f).lanes = s.lanes := rfl
@[simp] theorem State.modEntry_surveys (s : State) (n : Input) (stream : Nat) (f : MapEntry → MapEntry) : (s.modEntry n stream f).surveys = s.surveys := rfl
@[simp] theorem State.modEntry_slots (s : State) (n : Input) (stream : Nat) (f : MapEntry → MapEntry) : (s.modEntry n stream f).slots = s.slots := rfl
@[simp] theorem State.modEntry_voteDepth (s : State) (n : Input) (stream : Nat) (f : MapEntry → MapEntry) : (s.modEntry n stream f).voteDepth = s.voteDepth := rfl
@[simp] theorem State.modEntry_entitlement (s : State) (n : Input) (stream : Nat) (f : MapEntry → MapEntry) : (s.modEntry n stream f).entitlement = s.entitlement := rfl
@[simp] theorem State.modEntry_unitAddress (s : State) (n : Input) (stream : Nat) (f : MapEntry → MapEntry) : (s.modEntry n stream f).unitAddress = s.unitAddress := rfl
@[simp] theorem State.modEntry_clock (s : State) (n : Input) (stream : Nat) (f : MapEntry → MapEntry) : (s.modEntry n stream f).clock = s.clock := rfl
@[simp] theorem State.modEntry_tickPhase (s : State) (n : Input) (stream : Nat) (f : MapEntry → MapEntry) : (s.modEntry n stream f).tickPhase = s.tickPhase := rfl
@[simp] theorem State.modEntry_secondTaken (s : State) (n : Input) (stream : Nat) (f : MapEntry → MapEntry) : (s.modEntry n stream f).secondTaken = s.secondTaken := rfl
@[simp] theorem State.modEntry_guide (s : State) (n : Input) (stream : Nat) (f : MapEntry → MapEntry) : (s.modEntry n stream f).guide = s.guide := rfl
@[simp] theorem State.modEntry_timers (s : State) (n : Input) (stream : Nat) (f : MapEntry → MapEntry) : (s.modEntry n stream f).timers = s.timers := rfl
@[simp] theorem State.modEntry_profiles (s : State) (n : Input) (stream : Nat) (f : MapEntry → MapEntry) : (s.modEntry n stream f).profiles = s.profiles := rfl
@[simp] theorem State.modEntry_arbiters (s : State) (n : Input) (stream : Nat) (f : MapEntry → MapEntry) : (s.modEntry n stream f).arbiters = s.arbiters := rfl
@[simp] theorem State.modEntry_notices (s : State) (n : Input) (stream : Nat) (f : MapEntry → MapEntry) : (s.modEntry n stream f).notices = s.notices := rfl
@[simp] theorem State.modEntry_returnQueue (s : State) (n : Input) (stream : Nat) (f : MapEntry → MapEntry) : (s.modEntry n stream f).returnQueue = s.returnQueue := rfl
@[simp] theorem State.modEntry_returnCount (s : State) (n : Input) (stream : Nat) (f : MapEntry → MapEntry) : (s.modEntry n stream f).returnCount = s.returnCount := rfl
@[simp] theorem State.modEntry_returnPort (s : State) (n : Input) (stream : Nat) (f : MapEntry → MapEntry) : (s.modEntry n stream f).returnPort = s.returnPort := rfl
@[simp] theorem State.modEntry_decoders (s : State) (n : Input) (stream : Nat) (f : MapEntry → MapEntry) : (s.modEntry n stream f).decoders = s.decoders := rfl
@[simp] theorem State.modEntry_recorder (s : State) (n : Input) (stream : Nat) (f : MapEntry → MapEntry) : (s.modEntry n stream f).recorder = s.recorder := rfl
@[simp] theorem State.modEntry_lastGranted (s : State) (n : Input) (stream : Nat) (f : MapEntry → MapEntry) : (s.modEntry n stream f).lastGranted = s.lastGranted := rfl
@[simp] theorem State.modEntry_decoderReady (s : State) (n : Input) (stream : Nat) (f : MapEntry → MapEntry) : (s.modEntry n stream f).decoderReady = s.decoderReady := rfl
@[simp] theorem State.modEntry_recorderReady (s : State) (n : Input) (stream : Nat) (f : MapEntry → MapEntry) : (s.modEntry n stream f).recorderReady = s.recorderReady := rfl
@[simp] theorem State.modEntry_returnReady (s : State) (n : Input) (stream : Nat) (f : MapEntry → MapEntry) : (s.modEntry n stream f).returnReady = s.returnReady := rfl
@[simp] theorem State.modEntry_draws (s : State) (n : Input) (stream : Nat) (f : MapEntry → MapEntry) : (s.modEntry n stream f).draws = s.draws := rfl

/-! ### State.leave -/

@[simp] theorem State.leave_pending (s : State) (i : Fin 6) : (s.leave i).pending = s.pending := rfl
@[simp] theorem State.leave_resetHeld (s : State) (i : Fin 6) : (s.leave i).resetHeld = s.resetHeld := rfl
@[simp] theorem State.leave_inputA (s : State) (i : Fin 6) : (s.leave i).inputA = s.inputA := rfl
@[simp] theorem State.leave_inputB (s : State) (i : Fin 6) : (s.leave i).inputB = s.inputB := rfl
@[simp] theorem State.leave_keySections (s : State) (i : Fin 6) : (s.leave i).keySections = s.keySections := rfl
@[simp] theorem State.leave_grantSections (s : State) (i : Fin 6) : (s.leave i).grantSections = s.grantSections := rfl
@[simp] theorem State.leave_timeSections (s : State) (i : Fin 6) : (s.leave i).timeSections = s.timeSections := rfl
@[simp] theorem State.leave_guideSections (s : State) (i : Fin 6) : (s.leave i).guideSections = s.guideSections := rfl
@[simp] theorem State.leave_services (s : State) (i : Fin 6) : (s.leave i).services = s.services := rfl
@[simp] theorem State.leave_lanes (s : State) (i : Fin 6) : (s.leave i).lanes = s.lanes := rfl
@[simp] theorem State.leave_surveys (s : State) (i : Fin 6) : (s.leave i).surveys = s.surveys := rfl
@[simp] theorem State.leave_voteDepth (s : State) (i : Fin 6) : (s.leave i).voteDepth = s.voteDepth := rfl
@[simp] theorem State.leave_entitlement (s : State) (i : Fin 6) : (s.leave i).entitlement = s.entitlement := rfl
@[simp] theorem State.leave_unitAddress (s : State) (i : Fin 6) : (s.leave i).unitAddress = s.unitAddress := rfl
@[simp] theorem State.leave_clock (s : State) (i : Fin 6) : (s.leave i).clock = s.clock := rfl
@[simp] theorem State.leave_tickPhase (s : State) (i : Fin 6) : (s.leave i).tickPhase = s.tickPhase := rfl
@[simp] theorem State.leave_secondTaken (s : State) (i : Fin 6) : (s.leave i).secondTaken = s.secondTaken := rfl
@[simp] theorem State.leave_guide (s : State) (i : Fin 6) : (s.leave i).guide = s.guide := rfl
@[simp] theorem State.leave_timers (s : State) (i : Fin 6) : (s.leave i).timers = s.timers := rfl
@[simp] theorem State.leave_profiles (s : State) (i : Fin 6) : (s.leave i).profiles = s.profiles := rfl
@[simp] theorem State.leave_arbiters (s : State) (i : Fin 6) : (s.leave i).arbiters = s.arbiters := rfl
@[simp] theorem State.leave_notices (s : State) (i : Fin 6) : (s.leave i).notices = s.notices := rfl
@[simp] theorem State.leave_returnQueue (s : State) (i : Fin 6) : (s.leave i).returnQueue = s.returnQueue := rfl
@[simp] theorem State.leave_returnCount (s : State) (i : Fin 6) : (s.leave i).returnCount = s.returnCount := rfl
@[simp] theorem State.leave_returnPort (s : State) (i : Fin 6) : (s.leave i).returnPort = s.returnPort := rfl
@[simp] theorem State.leave_decoders (s : State) (i : Fin 6) : (s.leave i).decoders = s.decoders := rfl
@[simp] theorem State.leave_recorder (s : State) (i : Fin 6) : (s.leave i).recorder = s.recorder := rfl
@[simp] theorem State.leave_lastGranted (s : State) (i : Fin 6) : (s.leave i).lastGranted = s.lastGranted := rfl
@[simp] theorem State.leave_decoderReady (s : State) (i : Fin 6) : (s.leave i).decoderReady = s.decoderReady := rfl
@[simp] theorem State.leave_recorderReady (s : State) (i : Fin 6) : (s.leave i).recorderReady = s.recorderReady := rfl
@[simp] theorem State.leave_returnReady (s : State) (i : Fin 6) : (s.leave i).returnReady = s.returnReady := rfl
@[simp] theorem State.leave_draws (s : State) (i : Fin 6) : (s.leave i).draws = s.draws := rfl

/-! ### State.freeSlots -/

@[simp] theorem State.freeSlots_pending (s : State) (p : KeySlot → Bool) : (s.freeSlots p).pending = s.pending := rfl
@[simp] theorem State.freeSlots_resetHeld (s : State) (p : KeySlot → Bool) : (s.freeSlots p).resetHeld = s.resetHeld := rfl
@[simp] theorem State.freeSlots_inputA (s : State) (p : KeySlot → Bool) : (s.freeSlots p).inputA = s.inputA := rfl
@[simp] theorem State.freeSlots_inputB (s : State) (p : KeySlot → Bool) : (s.freeSlots p).inputB = s.inputB := rfl
@[simp] theorem State.freeSlots_keySections (s : State) (p : KeySlot → Bool) : (s.freeSlots p).keySections = s.keySections := rfl
@[simp] theorem State.freeSlots_grantSections (s : State) (p : KeySlot → Bool) : (s.freeSlots p).grantSections = s.grantSections := rfl
@[simp] theorem State.freeSlots_timeSections (s : State) (p : KeySlot → Bool) : (s.freeSlots p).timeSections = s.timeSections := rfl
@[simp] theorem State.freeSlots_guideSections (s : State) (p : KeySlot → Bool) : (s.freeSlots p).guideSections = s.guideSections := rfl
@[simp] theorem State.freeSlots_services (s : State) (p : KeySlot → Bool) : (s.freeSlots p).services = s.services := rfl
@[simp] theorem State.freeSlots_lanes (s : State) (p : KeySlot → Bool) : (s.freeSlots p).lanes = s.lanes := rfl
@[simp] theorem State.freeSlots_surveys (s : State) (p : KeySlot → Bool) : (s.freeSlots p).surveys = s.surveys := rfl
@[simp] theorem State.freeSlots_voteDepth (s : State) (p : KeySlot → Bool) : (s.freeSlots p).voteDepth = s.voteDepth := rfl
@[simp] theorem State.freeSlots_entitlement (s : State) (p : KeySlot → Bool) : (s.freeSlots p).entitlement = s.entitlement := rfl
@[simp] theorem State.freeSlots_unitAddress (s : State) (p : KeySlot → Bool) : (s.freeSlots p).unitAddress = s.unitAddress := rfl
@[simp] theorem State.freeSlots_clock (s : State) (p : KeySlot → Bool) : (s.freeSlots p).clock = s.clock := rfl
@[simp] theorem State.freeSlots_tickPhase (s : State) (p : KeySlot → Bool) : (s.freeSlots p).tickPhase = s.tickPhase := rfl
@[simp] theorem State.freeSlots_secondTaken (s : State) (p : KeySlot → Bool) : (s.freeSlots p).secondTaken = s.secondTaken := rfl
@[simp] theorem State.freeSlots_guide (s : State) (p : KeySlot → Bool) : (s.freeSlots p).guide = s.guide := rfl
@[simp] theorem State.freeSlots_timers (s : State) (p : KeySlot → Bool) : (s.freeSlots p).timers = s.timers := rfl
@[simp] theorem State.freeSlots_profiles (s : State) (p : KeySlot → Bool) : (s.freeSlots p).profiles = s.profiles := rfl
@[simp] theorem State.freeSlots_arbiters (s : State) (p : KeySlot → Bool) : (s.freeSlots p).arbiters = s.arbiters := rfl
@[simp] theorem State.freeSlots_notices (s : State) (p : KeySlot → Bool) : (s.freeSlots p).notices = s.notices := rfl
@[simp] theorem State.freeSlots_returnQueue (s : State) (p : KeySlot → Bool) : (s.freeSlots p).returnQueue = s.returnQueue := rfl
@[simp] theorem State.freeSlots_returnCount (s : State) (p : KeySlot → Bool) : (s.freeSlots p).returnCount = s.returnCount := rfl
@[simp] theorem State.freeSlots_returnPort (s : State) (p : KeySlot → Bool) : (s.freeSlots p).returnPort = s.returnPort := rfl
@[simp] theorem State.freeSlots_decoders (s : State) (p : KeySlot → Bool) : (s.freeSlots p).decoders = s.decoders := rfl
@[simp] theorem State.freeSlots_recorder (s : State) (p : KeySlot → Bool) : (s.freeSlots p).recorder = s.recorder := rfl
@[simp] theorem State.freeSlots_lastGranted (s : State) (p : KeySlot → Bool) : (s.freeSlots p).lastGranted = s.lastGranted := rfl
@[simp] theorem State.freeSlots_decoderReady (s : State) (p : KeySlot → Bool) : (s.freeSlots p).decoderReady = s.decoderReady := rfl
@[simp] theorem State.freeSlots_recorderReady (s : State) (p : KeySlot → Bool) : (s.freeSlots p).recorderReady = s.recorderReady := rfl
@[simp] theorem State.freeSlots_returnReady (s : State) (p : KeySlot → Bool) : (s.freeSlots p).returnReady = s.returnReady := rfl
@[simp] theorem State.freeSlots_draws (s : State) (p : KeySlot → Bool) : (s.freeSlots p).draws = s.draws := rfl

/-! ### State.detach -/

@[simp] theorem State.detach_pending (s : State) (i : Fin 6) : (s.detach i).pending = s.pending := rfl
@[simp] theorem State.detach_resetHeld (s : State) (i : Fin 6) : (s.detach i).resetHeld = s.resetHeld := rfl
@[simp] theorem State.detach_inputA (s : State) (i : Fin 6) : (s.detach i).inputA = s.inputA := rfl
@[simp] theorem State.detach_inputB (s : State) (i : Fin 6) : (s.detach i).inputB = s.inputB := rfl
@[simp] theorem State.detach_keySections (s : State) (i : Fin 6) : (s.detach i).keySections = s.keySections := rfl
@[simp] theorem State.detach_grantSections (s : State) (i : Fin 6) : (s.detach i).grantSections = s.grantSections := rfl
@[simp] theorem State.detach_timeSections (s : State) (i : Fin 6) : (s.detach i).timeSections = s.timeSections := rfl
@[simp] theorem State.detach_guideSections (s : State) (i : Fin 6) : (s.detach i).guideSections = s.guideSections := rfl
@[simp] theorem State.detach_services (s : State) (i : Fin 6) : (s.detach i).services = s.services := rfl
@[simp] theorem State.detach_lanes (s : State) (i : Fin 6) : (s.detach i).lanes = s.lanes := rfl
@[simp] theorem State.detach_surveys (s : State) (i : Fin 6) : (s.detach i).surveys = s.surveys := rfl
@[simp] theorem State.detach_voteDepth (s : State) (i : Fin 6) : (s.detach i).voteDepth = s.voteDepth := rfl
@[simp] theorem State.detach_entitlement (s : State) (i : Fin 6) : (s.detach i).entitlement = s.entitlement := rfl
@[simp] theorem State.detach_unitAddress (s : State) (i : Fin 6) : (s.detach i).unitAddress = s.unitAddress := rfl
@[simp] theorem State.detach_clock (s : State) (i : Fin 6) : (s.detach i).clock = s.clock := rfl
@[simp] theorem State.detach_tickPhase (s : State) (i : Fin 6) : (s.detach i).tickPhase = s.tickPhase := rfl
@[simp] theorem State.detach_secondTaken (s : State) (i : Fin 6) : (s.detach i).secondTaken = s.secondTaken := rfl
@[simp] theorem State.detach_guide (s : State) (i : Fin 6) : (s.detach i).guide = s.guide := rfl
@[simp] theorem State.detach_timers (s : State) (i : Fin 6) : (s.detach i).timers = s.timers := rfl
@[simp] theorem State.detach_profiles (s : State) (i : Fin 6) : (s.detach i).profiles = s.profiles := rfl
@[simp] theorem State.detach_arbiters (s : State) (i : Fin 6) : (s.detach i).arbiters = s.arbiters := rfl
@[simp] theorem State.detach_notices (s : State) (i : Fin 6) : (s.detach i).notices = s.notices := rfl
@[simp] theorem State.detach_returnQueue (s : State) (i : Fin 6) : (s.detach i).returnQueue = s.returnQueue := rfl
@[simp] theorem State.detach_returnCount (s : State) (i : Fin 6) : (s.detach i).returnCount = s.returnCount := rfl
@[simp] theorem State.detach_returnPort (s : State) (i : Fin 6) : (s.detach i).returnPort = s.returnPort := rfl
@[simp] theorem State.detach_decoders (s : State) (i : Fin 6) : (s.detach i).decoders = s.decoders := rfl
@[simp] theorem State.detach_recorder (s : State) (i : Fin 6) : (s.detach i).recorder = s.recorder := rfl
@[simp] theorem State.detach_lastGranted (s : State) (i : Fin 6) : (s.detach i).lastGranted = s.lastGranted := rfl
@[simp] theorem State.detach_decoderReady (s : State) (i : Fin 6) : (s.detach i).decoderReady = s.decoderReady := rfl
@[simp] theorem State.detach_recorderReady (s : State) (i : Fin 6) : (s.detach i).recorderReady = s.recorderReady := rfl
@[simp] theorem State.detach_returnReady (s : State) (i : Fin 6) : (s.detach i).returnReady = s.returnReady := rfl
@[simp] theorem State.detach_draws (s : State) (i : Fin 6) : (s.detach i).draws = s.draws := rfl

/-! ### State.detachKeeping -/

@[simp] theorem State.detachKeeping_pending (s : State) (i : Fin 6) (keep : List (Input × Nat)) : (s.detachKeeping i keep).pending = s.pending := rfl
@[simp] theorem State.detachKeeping_resetHeld (s : State) (i : Fin 6) (keep : List (Input × Nat)) : (s.detachKeeping i keep).resetHeld = s.resetHeld := rfl
@[simp] theorem State.detachKeeping_inputA (s : State) (i : Fin 6) (keep : List (Input × Nat)) : (s.detachKeeping i keep).inputA = s.inputA := rfl
@[simp] theorem State.detachKeeping_inputB (s : State) (i : Fin 6) (keep : List (Input × Nat)) : (s.detachKeeping i keep).inputB = s.inputB := rfl
@[simp] theorem State.detachKeeping_keySections (s : State) (i : Fin 6) (keep : List (Input × Nat)) : (s.detachKeeping i keep).keySections = s.keySections := rfl
@[simp] theorem State.detachKeeping_grantSections (s : State) (i : Fin 6) (keep : List (Input × Nat)) : (s.detachKeeping i keep).grantSections = s.grantSections := rfl
@[simp] theorem State.detachKeeping_timeSections (s : State) (i : Fin 6) (keep : List (Input × Nat)) : (s.detachKeeping i keep).timeSections = s.timeSections := rfl
@[simp] theorem State.detachKeeping_guideSections (s : State) (i : Fin 6) (keep : List (Input × Nat)) : (s.detachKeeping i keep).guideSections = s.guideSections := rfl
@[simp] theorem State.detachKeeping_services (s : State) (i : Fin 6) (keep : List (Input × Nat)) : (s.detachKeeping i keep).services = s.services := rfl
@[simp] theorem State.detachKeeping_lanes (s : State) (i : Fin 6) (keep : List (Input × Nat)) : (s.detachKeeping i keep).lanes = s.lanes := rfl
@[simp] theorem State.detachKeeping_surveys (s : State) (i : Fin 6) (keep : List (Input × Nat)) : (s.detachKeeping i keep).surveys = s.surveys := rfl
@[simp] theorem State.detachKeeping_voteDepth (s : State) (i : Fin 6) (keep : List (Input × Nat)) : (s.detachKeeping i keep).voteDepth = s.voteDepth := rfl
@[simp] theorem State.detachKeeping_entitlement (s : State) (i : Fin 6) (keep : List (Input × Nat)) : (s.detachKeeping i keep).entitlement = s.entitlement := rfl
@[simp] theorem State.detachKeeping_unitAddress (s : State) (i : Fin 6) (keep : List (Input × Nat)) : (s.detachKeeping i keep).unitAddress = s.unitAddress := rfl
@[simp] theorem State.detachKeeping_clock (s : State) (i : Fin 6) (keep : List (Input × Nat)) : (s.detachKeeping i keep).clock = s.clock := rfl
@[simp] theorem State.detachKeeping_tickPhase (s : State) (i : Fin 6) (keep : List (Input × Nat)) : (s.detachKeeping i keep).tickPhase = s.tickPhase := rfl
@[simp] theorem State.detachKeeping_secondTaken (s : State) (i : Fin 6) (keep : List (Input × Nat)) : (s.detachKeeping i keep).secondTaken = s.secondTaken := rfl
@[simp] theorem State.detachKeeping_guide (s : State) (i : Fin 6) (keep : List (Input × Nat)) : (s.detachKeeping i keep).guide = s.guide := rfl
@[simp] theorem State.detachKeeping_timers (s : State) (i : Fin 6) (keep : List (Input × Nat)) : (s.detachKeeping i keep).timers = s.timers := rfl
@[simp] theorem State.detachKeeping_profiles (s : State) (i : Fin 6) (keep : List (Input × Nat)) : (s.detachKeeping i keep).profiles = s.profiles := rfl
@[simp] theorem State.detachKeeping_arbiters (s : State) (i : Fin 6) (keep : List (Input × Nat)) : (s.detachKeeping i keep).arbiters = s.arbiters := rfl
@[simp] theorem State.detachKeeping_notices (s : State) (i : Fin 6) (keep : List (Input × Nat)) : (s.detachKeeping i keep).notices = s.notices := rfl
@[simp] theorem State.detachKeeping_returnQueue (s : State) (i : Fin 6) (keep : List (Input × Nat)) : (s.detachKeeping i keep).returnQueue = s.returnQueue := rfl
@[simp] theorem State.detachKeeping_returnCount (s : State) (i : Fin 6) (keep : List (Input × Nat)) : (s.detachKeeping i keep).returnCount = s.returnCount := rfl
@[simp] theorem State.detachKeeping_returnPort (s : State) (i : Fin 6) (keep : List (Input × Nat)) : (s.detachKeeping i keep).returnPort = s.returnPort := rfl
@[simp] theorem State.detachKeeping_decoders (s : State) (i : Fin 6) (keep : List (Input × Nat)) : (s.detachKeeping i keep).decoders = s.decoders := rfl
@[simp] theorem State.detachKeeping_recorder (s : State) (i : Fin 6) (keep : List (Input × Nat)) : (s.detachKeeping i keep).recorder = s.recorder := rfl
@[simp] theorem State.detachKeeping_lastGranted (s : State) (i : Fin 6) (keep : List (Input × Nat)) : (s.detachKeeping i keep).lastGranted = s.lastGranted := rfl
@[simp] theorem State.detachKeeping_decoderReady (s : State) (i : Fin 6) (keep : List (Input × Nat)) : (s.detachKeeping i keep).decoderReady = s.decoderReady := rfl
@[simp] theorem State.detachKeeping_recorderReady (s : State) (i : Fin 6) (keep : List (Input × Nat)) : (s.detachKeeping i keep).recorderReady = s.recorderReady := rfl
@[simp] theorem State.detachKeeping_returnReady (s : State) (i : Fin 6) (keep : List (Input × Nat)) : (s.detachKeeping i keep).returnReady = s.returnReady := rfl
@[simp] theorem State.detachKeeping_draws (s : State) (i : Fin 6) (keep : List (Input × Nat)) : (s.detachKeeping i keep).draws = s.draws := rfl

/-! ### State.draw -/

@[simp] theorem State.draw_pending (s : State) : (s.draw).pending = s.pending := rfl
@[simp] theorem State.draw_resetHeld (s : State) : (s.draw).resetHeld = s.resetHeld := rfl
@[simp] theorem State.draw_inputA (s : State) : (s.draw).inputA = s.inputA := rfl
@[simp] theorem State.draw_inputB (s : State) : (s.draw).inputB = s.inputB := rfl
@[simp] theorem State.draw_map (s : State) : (s.draw).map = s.map := rfl
@[simp] theorem State.draw_keySections (s : State) : (s.draw).keySections = s.keySections := rfl
@[simp] theorem State.draw_grantSections (s : State) : (s.draw).grantSections = s.grantSections := rfl
@[simp] theorem State.draw_timeSections (s : State) : (s.draw).timeSections = s.timeSections := rfl
@[simp] theorem State.draw_guideSections (s : State) : (s.draw).guideSections = s.guideSections := rfl
@[simp] theorem State.draw_services (s : State) : (s.draw).services = s.services := rfl
@[simp] theorem State.draw_lanes (s : State) : (s.draw).lanes = s.lanes := rfl
@[simp] theorem State.draw_surveys (s : State) : (s.draw).surveys = s.surveys := rfl
@[simp] theorem State.draw_slots (s : State) : (s.draw).slots = s.slots := rfl
@[simp] theorem State.draw_voteDepth (s : State) : (s.draw).voteDepth = s.voteDepth := rfl
@[simp] theorem State.draw_entitlement (s : State) : (s.draw).entitlement = s.entitlement := rfl
@[simp] theorem State.draw_unitAddress (s : State) : (s.draw).unitAddress = s.unitAddress := rfl
@[simp] theorem State.draw_clock (s : State) : (s.draw).clock = s.clock := rfl
@[simp] theorem State.draw_tickPhase (s : State) : (s.draw).tickPhase = s.tickPhase := rfl
@[simp] theorem State.draw_secondTaken (s : State) : (s.draw).secondTaken = s.secondTaken := rfl
@[simp] theorem State.draw_guide (s : State) : (s.draw).guide = s.guide := rfl
@[simp] theorem State.draw_timers (s : State) : (s.draw).timers = s.timers := rfl
@[simp] theorem State.draw_profiles (s : State) : (s.draw).profiles = s.profiles := rfl
@[simp] theorem State.draw_arbiters (s : State) : (s.draw).arbiters = s.arbiters := rfl
@[simp] theorem State.draw_notices (s : State) : (s.draw).notices = s.notices := rfl
@[simp] theorem State.draw_returnQueue (s : State) : (s.draw).returnQueue = s.returnQueue := rfl
@[simp] theorem State.draw_returnCount (s : State) : (s.draw).returnCount = s.returnCount := rfl
@[simp] theorem State.draw_returnPort (s : State) : (s.draw).returnPort = s.returnPort := rfl
@[simp] theorem State.draw_decoders (s : State) : (s.draw).decoders = s.decoders := rfl
@[simp] theorem State.draw_recorder (s : State) : (s.draw).recorder = s.recorder := rfl
@[simp] theorem State.draw_lastGranted (s : State) : (s.draw).lastGranted = s.lastGranted := rfl
@[simp] theorem State.draw_decoderReady (s : State) : (s.draw).decoderReady = s.decoderReady := rfl
@[simp] theorem State.draw_recorderReady (s : State) : (s.draw).recorderReady = s.recorderReady := rfl
@[simp] theorem State.draw_returnReady (s : State) : (s.draw).returnReady = s.returnReady := rfl

/-! ### State.enqueue -/

@[simp] theorem State.enqueue_pending (s : State) (b : ReturnBody) : (s.enqueue b).pending = s.pending := rfl
@[simp] theorem State.enqueue_resetHeld (s : State) (b : ReturnBody) : (s.enqueue b).resetHeld = s.resetHeld := rfl
@[simp] theorem State.enqueue_inputA (s : State) (b : ReturnBody) : (s.enqueue b).inputA = s.inputA := rfl
@[simp] theorem State.enqueue_inputB (s : State) (b : ReturnBody) : (s.enqueue b).inputB = s.inputB := rfl
@[simp] theorem State.enqueue_map (s : State) (b : ReturnBody) : (s.enqueue b).map = s.map := rfl
@[simp] theorem State.enqueue_keySections (s : State) (b : ReturnBody) : (s.enqueue b).keySections = s.keySections := rfl
@[simp] theorem State.enqueue_grantSections (s : State) (b : ReturnBody) : (s.enqueue b).grantSections = s.grantSections := rfl
@[simp] theorem State.enqueue_timeSections (s : State) (b : ReturnBody) : (s.enqueue b).timeSections = s.timeSections := rfl
@[simp] theorem State.enqueue_guideSections (s : State) (b : ReturnBody) : (s.enqueue b).guideSections = s.guideSections := rfl
@[simp] theorem State.enqueue_services (s : State) (b : ReturnBody) : (s.enqueue b).services = s.services := rfl
@[simp] theorem State.enqueue_lanes (s : State) (b : ReturnBody) : (s.enqueue b).lanes = s.lanes := rfl
@[simp] theorem State.enqueue_surveys (s : State) (b : ReturnBody) : (s.enqueue b).surveys = s.surveys := rfl
@[simp] theorem State.enqueue_slots (s : State) (b : ReturnBody) : (s.enqueue b).slots = s.slots := rfl
@[simp] theorem State.enqueue_voteDepth (s : State) (b : ReturnBody) : (s.enqueue b).voteDepth = s.voteDepth := rfl
@[simp] theorem State.enqueue_entitlement (s : State) (b : ReturnBody) : (s.enqueue b).entitlement = s.entitlement := rfl
@[simp] theorem State.enqueue_unitAddress (s : State) (b : ReturnBody) : (s.enqueue b).unitAddress = s.unitAddress := rfl
@[simp] theorem State.enqueue_clock (s : State) (b : ReturnBody) : (s.enqueue b).clock = s.clock := rfl
@[simp] theorem State.enqueue_tickPhase (s : State) (b : ReturnBody) : (s.enqueue b).tickPhase = s.tickPhase := rfl
@[simp] theorem State.enqueue_secondTaken (s : State) (b : ReturnBody) : (s.enqueue b).secondTaken = s.secondTaken := rfl
@[simp] theorem State.enqueue_guide (s : State) (b : ReturnBody) : (s.enqueue b).guide = s.guide := rfl
@[simp] theorem State.enqueue_timers (s : State) (b : ReturnBody) : (s.enqueue b).timers = s.timers := rfl
@[simp] theorem State.enqueue_profiles (s : State) (b : ReturnBody) : (s.enqueue b).profiles = s.profiles := rfl
@[simp] theorem State.enqueue_arbiters (s : State) (b : ReturnBody) : (s.enqueue b).arbiters = s.arbiters := rfl
@[simp] theorem State.enqueue_notices (s : State) (b : ReturnBody) : (s.enqueue b).notices = s.notices := rfl
@[simp] theorem State.enqueue_returnPort (s : State) (b : ReturnBody) : (s.enqueue b).returnPort = s.returnPort := rfl
@[simp] theorem State.enqueue_decoders (s : State) (b : ReturnBody) : (s.enqueue b).decoders = s.decoders := rfl
@[simp] theorem State.enqueue_recorder (s : State) (b : ReturnBody) : (s.enqueue b).recorder = s.recorder := rfl
@[simp] theorem State.enqueue_lastGranted (s : State) (b : ReturnBody) : (s.enqueue b).lastGranted = s.lastGranted := rfl
@[simp] theorem State.enqueue_decoderReady (s : State) (b : ReturnBody) : (s.enqueue b).decoderReady = s.decoderReady := rfl
@[simp] theorem State.enqueue_recorderReady (s : State) (b : ReturnBody) : (s.enqueue b).recorderReady = s.recorderReady := rfl
@[simp] theorem State.enqueue_returnReady (s : State) (b : ReturnBody) : (s.enqueue b).returnReady = s.returnReady := rfl

/-! ### State.respond -/

@[simp] theorem State.respond_pending (s : State) (tag : Word16) (code : Byte) (st : Status) (fs : List Field) : (s.respond tag code st fs).pending = s.pending := rfl
@[simp] theorem State.respond_resetHeld (s : State) (tag : Word16) (code : Byte) (st : Status) (fs : List Field) : (s.respond tag code st fs).resetHeld = s.resetHeld := rfl
@[simp] theorem State.respond_inputA (s : State) (tag : Word16) (code : Byte) (st : Status) (fs : List Field) : (s.respond tag code st fs).inputA = s.inputA := rfl
@[simp] theorem State.respond_inputB (s : State) (tag : Word16) (code : Byte) (st : Status) (fs : List Field) : (s.respond tag code st fs).inputB = s.inputB := rfl
@[simp] theorem State.respond_map (s : State) (tag : Word16) (code : Byte) (st : Status) (fs : List Field) : (s.respond tag code st fs).map = s.map := rfl
@[simp] theorem State.respond_keySections (s : State) (tag : Word16) (code : Byte) (st : Status) (fs : List Field) : (s.respond tag code st fs).keySections = s.keySections := rfl
@[simp] theorem State.respond_grantSections (s : State) (tag : Word16) (code : Byte) (st : Status) (fs : List Field) : (s.respond tag code st fs).grantSections = s.grantSections := rfl
@[simp] theorem State.respond_timeSections (s : State) (tag : Word16) (code : Byte) (st : Status) (fs : List Field) : (s.respond tag code st fs).timeSections = s.timeSections := rfl
@[simp] theorem State.respond_guideSections (s : State) (tag : Word16) (code : Byte) (st : Status) (fs : List Field) : (s.respond tag code st fs).guideSections = s.guideSections := rfl
@[simp] theorem State.respond_services (s : State) (tag : Word16) (code : Byte) (st : Status) (fs : List Field) : (s.respond tag code st fs).services = s.services := rfl
@[simp] theorem State.respond_lanes (s : State) (tag : Word16) (code : Byte) (st : Status) (fs : List Field) : (s.respond tag code st fs).lanes = s.lanes := rfl
@[simp] theorem State.respond_surveys (s : State) (tag : Word16) (code : Byte) (st : Status) (fs : List Field) : (s.respond tag code st fs).surveys = s.surveys := rfl
@[simp] theorem State.respond_slots (s : State) (tag : Word16) (code : Byte) (st : Status) (fs : List Field) : (s.respond tag code st fs).slots = s.slots := rfl
@[simp] theorem State.respond_voteDepth (s : State) (tag : Word16) (code : Byte) (st : Status) (fs : List Field) : (s.respond tag code st fs).voteDepth = s.voteDepth := rfl
@[simp] theorem State.respond_entitlement (s : State) (tag : Word16) (code : Byte) (st : Status) (fs : List Field) : (s.respond tag code st fs).entitlement = s.entitlement := rfl
@[simp] theorem State.respond_unitAddress (s : State) (tag : Word16) (code : Byte) (st : Status) (fs : List Field) : (s.respond tag code st fs).unitAddress = s.unitAddress := rfl
@[simp] theorem State.respond_clock (s : State) (tag : Word16) (code : Byte) (st : Status) (fs : List Field) : (s.respond tag code st fs).clock = s.clock := rfl
@[simp] theorem State.respond_tickPhase (s : State) (tag : Word16) (code : Byte) (st : Status) (fs : List Field) : (s.respond tag code st fs).tickPhase = s.tickPhase := rfl
@[simp] theorem State.respond_secondTaken (s : State) (tag : Word16) (code : Byte) (st : Status) (fs : List Field) : (s.respond tag code st fs).secondTaken = s.secondTaken := rfl
@[simp] theorem State.respond_guide (s : State) (tag : Word16) (code : Byte) (st : Status) (fs : List Field) : (s.respond tag code st fs).guide = s.guide := rfl
@[simp] theorem State.respond_timers (s : State) (tag : Word16) (code : Byte) (st : Status) (fs : List Field) : (s.respond tag code st fs).timers = s.timers := rfl
@[simp] theorem State.respond_profiles (s : State) (tag : Word16) (code : Byte) (st : Status) (fs : List Field) : (s.respond tag code st fs).profiles = s.profiles := rfl
@[simp] theorem State.respond_arbiters (s : State) (tag : Word16) (code : Byte) (st : Status) (fs : List Field) : (s.respond tag code st fs).arbiters = s.arbiters := rfl
@[simp] theorem State.respond_notices (s : State) (tag : Word16) (code : Byte) (st : Status) (fs : List Field) : (s.respond tag code st fs).notices = s.notices := rfl
@[simp] theorem State.respond_returnPort (s : State) (tag : Word16) (code : Byte) (st : Status) (fs : List Field) : (s.respond tag code st fs).returnPort = s.returnPort := rfl
@[simp] theorem State.respond_decoders (s : State) (tag : Word16) (code : Byte) (st : Status) (fs : List Field) : (s.respond tag code st fs).decoders = s.decoders := rfl
@[simp] theorem State.respond_recorder (s : State) (tag : Word16) (code : Byte) (st : Status) (fs : List Field) : (s.respond tag code st fs).recorder = s.recorder := rfl
@[simp] theorem State.respond_lastGranted (s : State) (tag : Word16) (code : Byte) (st : Status) (fs : List Field) : (s.respond tag code st fs).lastGranted = s.lastGranted := rfl
@[simp] theorem State.respond_decoderReady (s : State) (tag : Word16) (code : Byte) (st : Status) (fs : List Field) : (s.respond tag code st fs).decoderReady = s.decoderReady := rfl
@[simp] theorem State.respond_recorderReady (s : State) (tag : Word16) (code : Byte) (st : Status) (fs : List Field) : (s.respond tag code st fs).recorderReady = s.recorderReady := rfl
@[simp] theorem State.respond_returnReady (s : State) (tag : Word16) (code : Byte) (st : Status) (fs : List Field) : (s.respond tag code st fs).returnReady = s.returnReady := rfl

/-! ### What the updates write -/

@[simp] theorem State.modLane_get_self (s : State) (i : Fin 6) (f : Lane → Lane) :
    (s.modLane i f).lanes[i.val] = f s.lanes[i.val] := by simp [State.modLane]
theorem State.modLane_get_ne (s : State) (i j : Fin 6) (f : Lane → Lane) (h : i ≠ j) :
    (s.modLane i f).lanes[j] = s.lanes[j] := by
  have : i.val ≠ j.val := fun e => h (Fin.ext e)
  simp [State.modLane, this]
theorem State.modLane_get (s : State) (i j : Fin 6) (f : Lane → Lane) :
    (s.modLane i f).lanes[j] = if i = j then f s.lanes[j] else s.lanes[j] := by
  by_cases h : i = j
  · subst h; simp
  · rw [State.modLane_get_ne s i j f h, if_neg h]
@[simp] theorem State.modSurvey_get_self (s : State) (i : Fin 6) (f : SurveyTable → SurveyTable) :
    (s.modSurvey i f).surveys[i.val] = f s.surveys[i.val] := by simp [State.modSurvey]
theorem State.modSurvey_get_ne (s : State) (i j : Fin 6) (f : SurveyTable → SurveyTable) (h : i ≠ j) :
    (s.modSurvey i f).surveys[j] = s.surveys[j] := by
  have : i.val ≠ j.val := fun e => h (Fin.ext e)
  simp [State.modSurvey, this]
@[simp] theorem State.setSlot_get_self (s : State) (k : Fin 16) (r : Option KeySlot) :
    (s.setSlot k r).slots[k.val] = r := by simp [State.setSlot]
theorem State.setSlot_get_ne (s : State) (k j : Fin 16) (r : Option KeySlot) (h : k ≠ j) :
    (s.setSlot k r).slots[j] = s.slots[j] := by
  have : k.val ≠ j.val := fun e => h (Fin.ext e)
  simp [State.setSlot, this]
@[simp] theorem State.modSlot_get_self (s : State) (k : Fin 16) (f : KeySlot → KeySlot) :
    (s.modSlot k f).slots[k.val] = (s.slots[k.val]).map f := by simp [State.modSlot, State.setSlot]
theorem State.modSlot_get_ne (s : State) (k j : Fin 16) (f : KeySlot → KeySlot) (h : k ≠ j) :
    (s.modSlot k f).slots[j] = s.slots[j] := State.setSlot_get_ne s k j _ h
@[simp] theorem State.modTimer_get_self (s : State) (t : Fin 24) (f : Timer → Timer) :
    (s.modTimer t f).timers[t.val] = f s.timers[t.val] := by simp [State.modTimer]
theorem State.modTimer_get_ne (s : State) (t u : Fin 24) (f : Timer → Timer) (h : t ≠ u) :
    (s.modTimer t f).timers[u] = s.timers[u] := by
  have : t.val ≠ u.val := fun e => h (Fin.ext e)
  simp [State.modTimer, this]
@[simp] theorem State.modProfile_get_self (s : State) (p : Fin 4) (f : Profile → Profile) :
    (s.modProfile p f).profiles[p.val] = f s.profiles[p.val] := by simp [State.modProfile]
theorem State.modProfile_get_ne (s : State) (p q : Fin 4) (f : Profile → Profile) (h : p ≠ q) :
    (s.modProfile p f).profiles[q] = s.profiles[q] := by
  have : p.val ≠ q.val := fun e => h (Fin.ext e)
  simp [State.modProfile, this]
@[simp] theorem State.modArbiter_get_self (s : State) (d : Fin 2) (f : Arbiter → Arbiter) :
    (s.modArbiter d f).arbiters[d.val] = f s.arbiters[d.val] := by simp [State.modArbiter]
theorem State.modArbiter_get_ne (s : State) (d c : Fin 2) (f : Arbiter → Arbiter) (h : d ≠ c) :
    (s.modArbiter d f).arbiters[c] = s.arbiters[c] := by
  have : d.val ≠ c.val := fun e => h (Fin.ext e)
  simp [State.modArbiter, this]
@[simp] theorem Arbiter.modEntry_get_self (a : Arbiter) (k : Fin 8) (f : PromptEntry → PromptEntry) :
    (a.modEntry k f).entries[k.val] = f a.entries[k.val] := by simp [Arbiter.modEntry]
theorem Arbiter.modEntry_get_ne (a : Arbiter) (k j : Fin 8) (f : PromptEntry → PromptEntry) (h : k ≠ j) :
    (a.modEntry k f).entries[j] = a.entries[j] := by
  have : k.val ≠ j.val := fun e => h (Fin.ext e)
  simp [Arbiter.modEntry, this]
@[simp] theorem Arbiter.modEntry_stack (a : Arbiter) (k : Fin 8) (f : PromptEntry → PromptEntry) :
    (a.modEntry k f).stack = a.stack := rfl
@[simp] theorem Arbiter.modEntry_lowest (a : Arbiter) (k : Fin 8) (f : PromptEntry → PromptEntry) :
    (a.modEntry k f).lowest = a.lowest := rfl
@[simp] theorem Arbiter.modEntry_autoRotate (a : Arbiter) (k : Fin 8) (f : PromptEntry → PromptEntry) :
    (a.modEntry k f).autoRotate = a.autoRotate := rfl
@[simp] theorem Arbiter.modEntry_report (a : Arbiter) (k : Fin 8) (f : PromptEntry → PromptEntry) :
    (a.modEntry k f).report = a.report := rfl
@[simp] theorem State.modClock_clock (s : State) (f : Clock → Clock) : (s.modClock f).clock = f s.clock := rfl
@[simp] theorem State.modInput_input (s : State) (n : Input) (f : InputState → InputState) :
    (s.modInput n f).input n = f (s.input n) := by cases n <;> rfl
@[simp] theorem State.modSectionRecord_get (s : State) (k : SectionKind) (f : SectionRecord → SectionRecord) :
    (s.modSectionRecord k f).sectionRecord k = f (s.sectionRecord k) := by cases k <;> rfl
@[simp] theorem State.setGrants_entitlement (s : State) (gs : List Grant) :
    (s.setGrants gs).entitlement = { s.entitlement with grants := gs } := rfl
@[simp] theorem State.draw_draws (s : State) : s.draw.draws = s.draws + 1 := rfl
@[simp] theorem State.respond_returnQueue (s : State) (tag : Word16) (code : Byte) (st : Status)
    (fs : List Field) : (s.respond tag code st fs).returnQueue =
      s.returnQueue ++ [⟨s.returnCount, .response tag code st (encode s.draws fs)⟩] := rfl
@[simp] theorem State.respond_returnCount (s : State) (tag : Word16) (code : Byte) (st : Status)
    (fs : List Field) : (s.respond tag code st fs).returnCount = s.returnCount + 1 := rfl
@[simp] theorem State.respond_draws (s : State) (tag : Word16) (code : Byte) (st : Status)
    (fs : List Field) : (s.respond tag code st fs).draws = s.draws + 1 := rfl
@[simp] theorem State.enqueue_returnQueue (s : State) (b : ReturnBody) :
    (s.enqueue b).returnQueue = s.returnQueue ++ [⟨s.returnCount, b⟩] := rfl
@[simp] theorem State.enqueue_returnCount (s : State) (b : ReturnBody) :
    (s.enqueue b).returnCount = s.returnCount + 1 := rfl
@[simp] theorem State.enqueue_draws (s : State) (b : ReturnBody) : (s.enqueue b).draws = s.draws + 1 := rfl

/-! ### Parts of an event -/

@[simp] theorem Ev.start_before (s : State) : (Ev.start s).before = s := rfl
@[simp] theorem Ev.start_now (s : State) : (Ev.start s).now = s := rfl
@[simp] theorem Ev.start_raised (s : State) : (Ev.start s).raised = [] := rfl
@[simp] theorem Ev.start_withdrawn (s : State) : (Ev.start s).withdrawn = [] := rfl
@[simp] theorem Ev.on_before (e : Ev) (f : State → State) : (e.on f).before = e.before := rfl
@[simp] theorem Ev.on_now (e : Ev) (f : State → State) : (e.on f).now = f e.now := rfl
@[simp] theorem Ev.on_raised (e : Ev) (f : State → State) : (e.on f).raised = e.raised := rfl
@[simp] theorem Ev.on_withdrawn (e : Ev) (f : State → State) : (e.on f).withdrawn = e.withdrawn := rfl
@[simp] theorem Ev.notice_before (e : Ev) (n : Notice) : (e.notice n).before = e.before := rfl
@[simp] theorem Ev.notice_now (e : Ev) (n : Notice) : (e.notice n).now = e.now := rfl
@[simp] theorem Ev.notice_raised (e : Ev) (n : Notice) : (e.notice n).raised = n :: e.raised := rfl
@[simp] theorem Ev.notice_withdrawn (e : Ev) (n : Notice) : (e.notice n).withdrawn = e.withdrawn := rfl
@[simp] theorem Ev.noticeIf_before (e : Ev) (c : Bool) (n : Notice) : (e.noticeIf c n).before = e.before := by
  cases c <;> rfl
@[simp] theorem Ev.noticeIf_now (e : Ev) (c : Bool) (n : Notice) : (e.noticeIf c n).now = e.now := by
  cases c <;> rfl
@[simp] theorem Ev.noticeIf_withdrawn (e : Ev) (c : Bool) (n : Notice) :
    (e.noticeIf c n).withdrawn = e.withdrawn := by cases c <;> rfl
@[simp] theorem Ev.noticeIf_raised (e : Ev) (c : Bool) (n : Notice) :
    (e.noticeIf c n).raised = if c then n :: e.raised else e.raised := by cases c <;> rfl
@[simp] theorem Ev.lane_before (e : Ev) (i : Fin 6) (f : Lane → Lane × Bool) : (e.lane i f).before = e.before := by
  simp [Ev.lane]
@[simp] theorem Ev.lane_now (e : Ev) (i : Fin 6) (f : Lane → Lane × Bool) :
    (e.lane i f).now = e.now.modLane i fun l => (f l).1 := by
  simp [Ev.lane, State.modLane]
@[simp] theorem Ev.lane_withdrawn (e : Ev) (i : Fin 6) (f : Lane → Lane × Bool) :
    (e.lane i f).withdrawn = e.withdrawn := by simp [Ev.lane]
@[simp] theorem Ev.arbiter_before (e : Ev) (d : Fin 2) (f : Arbiter → Arbiter × Bool) :
    (e.arbiter d f).before = e.before := by simp [Ev.arbiter]
@[simp] theorem Ev.arbiter_now (e : Ev) (d : Fin 2) (f : Arbiter → Arbiter × Bool) :
    (e.arbiter d f).now = e.now.modArbiter d fun a => (f a).1 := by
  simp [Ev.arbiter, State.modArbiter]
@[simp] theorem Ev.arbiter_withdrawn (e : Ev) (d : Fin 2) (f : Arbiter → Arbiter × Bool) :
    (e.arbiter d f).withdrawn = e.withdrawn := by simp [Ev.arbiter]
@[simp] theorem Ev.start_gave (s : State) : (Ev.start s).gave = [] := rfl
@[simp] theorem Ev.on_gave (e : Ev) (f : State → State) : (e.on f).gave = e.gave := rfl
@[simp] theorem Ev.notice_gave (e : Ev) (n : Notice) : (e.notice n).gave = e.gave := rfl
@[simp] theorem Ev.noticeIf_gave (e : Ev) (c : Bool) (n : Notice) : (e.noticeIf c n).gave = e.gave := by
  cases c <;> rfl
@[simp] theorem Ev.lane_gave (e : Ev) (i : Fin 6) (f : Lane → Lane × Bool) : (e.lane i f).gave = e.gave := by
  simp [Ev.lane]
@[simp] theorem Ev.arbiter_gave (e : Ev) (d : Fin 2) (f : Arbiter → Arbiter × Bool) :
    (e.arbiter d f).gave = e.gave := by simp [Ev.arbiter]
@[simp] theorem Ev.start_retaken (s : State) : (Ev.start s).retaken = [] := rfl
@[simp] theorem Ev.on_retaken (e : Ev) (f : State → State) : (e.on f).retaken = e.retaken := rfl
@[simp] theorem Ev.notice_retaken (e : Ev) (n : Notice) : (e.notice n).retaken = e.retaken := rfl
@[simp] theorem Ev.noticeIf_retaken (e : Ev) (c : Bool) (n : Notice) : (e.noticeIf c n).retaken = e.retaken := by
  cases c <;> rfl
@[simp] theorem Ev.lane_retaken (e : Ev) (i : Fin 6) (f : Lane → Lane × Bool) : (e.lane i f).retaken = e.retaken := by
  simp [Ev.lane]
@[simp] theorem Ev.arbiter_retaken (e : Ev) (d : Fin 2) (f : Arbiter → Arbiter × Bool) :
    (e.arbiter d f).retaken = e.retaken := by simp [Ev.arbiter]
@[simp] theorem Ev.start_keep (s : State) : (Ev.start s).keep = [] := rfl
@[simp] theorem Ev.on_keep (e : Ev) (f : State → State) : (e.on f).keep = e.keep := rfl
@[simp] theorem Ev.notice_keep (e : Ev) (n : Notice) : (e.notice n).keep = e.keep := rfl
@[simp] theorem Ev.noticeIf_keep (e : Ev) (c : Bool) (n : Notice) : (e.noticeIf c n).keep = e.keep := by
  cases c <;> rfl
@[simp] theorem Ev.lane_keep (e : Ev) (i : Fin 6) (f : Lane → Lane × Bool) : (e.lane i f).keep = e.keep := by
  simp [Ev.lane]
@[simp] theorem Ev.arbiter_keep (e : Ev) (d : Fin 2) (f : Arbiter → Arbiter × Bool) :
    (e.arbiter d f).keep = e.keep := by simp [Ev.arbiter]

/-! ### What a lane gives up and takes again within one event (R78) -/

@[simp] theorem Ev.giveUp_now (e : Ev) (i : Fin 6) : (e.giveUp i).now = e.now.detachKeeping i e.keep := rfl
@[simp] theorem Ev.giveUp_raised (e : Ev) (i : Fin 6) : (e.giveUp i).raised = e.raised := rfl
@[simp] theorem Ev.giveUp_gave (e : Ev) (i : Fin 6) : (e.giveUp i).gave = e.now.references i ++ e.gave := rfl
@[simp] theorem Ev.giveUp_retaken (e : Ev) (i : Fin 6) : (e.giveUp i).retaken = e.retaken := rfl
@[simp] theorem Ev.giveUp_keep (e : Ev) (i : Fin 6) : (e.giveUp i).keep = e.keep := rfl
@[simp] theorem Ev.installFor_now (e : Ev) (i : Fin 6) (input : Input) (r : Service) :
    (e.installFor i input r).now = e.now.install i input r := rfl
@[simp] theorem Ev.installFor_raised (e : Ev) (i : Fin 6) (input : Input) (r : Service) :
    (e.installFor i input r).raised = e.raised := rfl
@[simp] theorem Ev.installFor_gave (e : Ev) (i : Fin 6) (input : Input) (r : Service) :
    (e.installFor i input r).gave = e.gave := rfl
@[simp] theorem Ev.installFor_keep (e : Ev) (i : Fin 6) (input : Input) (r : Service) :
    (e.installFor i input r).keep = e.keep := rfl

/-- With nothing given up before it, an installation takes nothing again. -/
theorem Ev.installFor_retaken_of_gave_nil (e : Ev) (i : Fin 6) (input : Input) (r : Service) (h : e.gave = []) :
    (e.installFor i input r).retaken = e.retaken := by
  simp [Ev.installFor, h]

/-- An event in which nothing is taken again is the plain run of it. -/
theorem Ev.keepingRetaken_of_none (e : Ev) (body : Ev → Ev) (h : (body e).retaken = []) :
    e.keepingRetaken body = body e := by
  simp [Ev.keepingRetaken, h]

/-- An event in which slots are taken again is the run that keeps them. -/
theorem Ev.keepingRetaken_of_some (e : Ev) (body : Ev → Ev) (h : (body e).retaken ≠ []) :
    e.keepingRetaken body =
      (body { e with keep := (body e).retaken }).on fun s => s.freeUnused (body e).retaken := by
  simp [Ev.keepingRetaken, h]

end Sys2Proof.Machine
end

