-- ==== Sys2Proof/Laws/Close.lean ====
section
/-!
SUPPORT. What the close of an event can do: an event that leaves the lanes and the arbiters alone is closed by
its notices alone, and in every event the close touches nothing but the lanes' gates and buffers, the
arbiters and the pending list.
-/

namespace Sys2Proof.Machine

/-! ### Folds over an event -/

/-- A fold of operations keeps whatever each of them keeps. -/
theorem foldl_keeps {α β : Type} {P : β → Prop} {f : β → α → β} (h : ∀ e x, P e → P (f e x)) :
    ∀ (xs : List α) (e : β), P e → P (xs.foldl f e)
  | [], _, he => he
  | x :: xs, e, he => foldl_keeps h xs (f e x) (h e x he)

/-- A fold of operations leaves unchanged whatever each of them leaves unchanged. -/
theorem foldl_same {α β γ : Type} (g : β → γ) {f : β → α → β} (h : ∀ e x, g (f e x) = g e) (xs : List α)
    (e : β) : g (xs.foldl f e) = g e :=
  foldl_keeps (P := fun x => g x = g e) (fun a x ha => (h a x).trans ha) xs e rfl

/-! ### Gates -/

@[simp] theorem Lane.closeGate_self (l : Lane) : Lane.closeGate l l = l := by simp [Lane.closeGate]

/-- A gate whose lane kept its state and its reason set is not worked out (R49). -/
theorem Lane.closeGate_of_same {before now : Lane} (hs : now.state = before.state)
    (hr : now.reasons = before.reasons) : Lane.closeGate before now = now := by
  simp [Lane.closeGate, hs, hr]

@[simp] theorem Ev.closeGates_before (e : Ev) : e.closeGates.before = e.before := rfl
@[simp] theorem Ev.closeGates_raised (e : Ev) : e.closeGates.raised = e.raised := rfl
@[simp] theorem Ev.closeGates_withdrawn (e : Ev) : e.closeGates.withdrawn = e.withdrawn := rfl

/-- The gates at the close of an event, lane by lane (R49). -/
theorem Ev.closeGates_get (e : Ev) (i : Fin 6) :
    (e.closeGates.now.lanes)[i] = Lane.closeGate e.before.lanes[i] e.now.lanes[i] := by
  simp [Ev.closeGates]

/-- An event that leaves the lanes alone works out no gate. -/
theorem Ev.closeGates_of_lanes {e : Ev} (h : e.now.lanes = e.before.lanes) : e.closeGates = e := by
  obtain ⟨before, now, raised, withdrawn⟩ := e
  simp only at h
  have : (Vector.ofFn fun i : Fin 6 => Lane.closeGate before.lanes[i] now.lanes[i]) = now.lanes := by
    ext i hi
    simp [h]
  simp only [Ev.closeGates, Ev.on, this]

/-! ### Prompts -/

/-- A level kind whose cause and context are as before the event is left alone (R182). -/
theorem Ev.followLevel_of_same {e : Ev} {d : Fin 2} {k : Fin 8} (hw : e.withdrawn = [])
    (h : e.now.lanes = e.before.lanes) : e.followLevel d k = e := by
  have hl : e.now.level d k = e.before.level d k := by simp [State.level, h]
  unfold Ev.followLevel
  simp only [hw, hl, List.contains_nil, Bool.false_eq_true, if_false]
  cases e.before.level d k <;> simp

theorem Ev.followLevels_of_same {e : Ev} {d : Fin 2} (hw : e.withdrawn = [])
    (h : e.now.lanes = e.before.lanes) : e.followLevels d = e := by
  have : ∀ ks : List (Fin 8), ks.foldl (fun e k => e.followLevel d k) e = e := by
    intro ks
    induction ks with
    | nil => rfl
    | cons k ks ih => rw [List.foldl_cons, Ev.followLevel_of_same hw h, ih]
  exact this levelKinds

/-- The prompts at the close of an event that leaves the lanes alone: the eligible sets alone are worked out
(R187). -/
theorem Ev.closePrompts_of_lanes {e : Ev} (hw : e.withdrawn = []) (h : e.now.lanes = e.before.lanes) :
    e.closePrompts = allDisplays.foldl (fun e d => e.followEligible d) e := by
  simp [Ev.closePrompts, allDisplays, Ev.followLevels_of_same hw h]

/-- A display whose eligible set has not opened reports nothing (R187). -/
theorem Ev.followEligible_of_not_opened {e : Ev} {d : Fin 2}
    (h : (e.before.arbiters[d]).eligible = [] → (e.now.arbiters[d]).eligible = []) :
    e.followEligible d = e := by
  unfold Ev.followEligible
  by_cases hb : (e.before.arbiters[d]).eligible = []
  · simp only [h hb, hb, List.isEmpty_nil, Bool.not_true, Bool.and_false, Bool.false_eq_true, if_false]
  · have : (e.before.arbiters[d]).eligible.isEmpty = false := by simpa using hb
    simp only [this, Bool.false_and, Bool.false_eq_true, if_false]

/-! ### The close -/

/-- The close of an event that leaves the lanes alone and opens no eligible set: the notices raised enter the
pending list, and nothing else happens. -/
theorem Ev.close_of_quiet {e : Ev} (hw : e.withdrawn = []) (hl : e.now.lanes = e.before.lanes)
    (ha : ∀ d : Fin 2, (e.before.arbiters[d]).eligible = [] → (e.now.arbiters[d]).eligible = []) :
    e.close = { e.now with notices := e.now.notices ++ newNotices e.now.notices e.raised } := by
  unfold Ev.close
  rw [Ev.closeGates_of_lanes hl, Ev.closePrompts_of_lanes hw hl]
  simp only [allDisplays, List.foldl_cons, List.foldl_nil]
  rw [Ev.followEligible_of_not_opened (ha 0), Ev.followEligible_of_not_opened (ha 1)]

@[simp] theorem newNotices_nil (held : List Notice) : newNotices held [] = [] := by
  simp [newNotices]

/-- The close of an event that changes neither a lane nor an arbiter and raises nothing. -/
theorem Ev.close_of_untouched {e : Ev} (hw : e.withdrawn = []) (hr : e.raised = [])
    (hl : e.now.lanes = e.before.lanes) (ha : e.now.arbiters = e.before.arbiters) : e.close = e.now := by
  rw [Ev.close_of_quiet hw hl (fun d h => by rw [ha]; exact h), hr]
  simp

@[simp] theorem Ev.close_start (s : State) : (Ev.start s).close = s :=
  Ev.close_of_untouched rfl rfl rfl rfl

/-- An event that applies one change outside the lanes and the arbiters ends in that change. -/
theorem Ev.close_start_on {s : State} {f : State → State} (hl : (f s).lanes = s.lanes)
    (ha : (f s).arbiters = s.arbiters) : ((Ev.start s).on f).close = f s :=
  Ev.close_of_untouched rfl rfl hl ha

/-! ### Notices raised within one event -/

theorem newNotices_sublist (held raised : List Notice) : (newNotices held raised).Sublist allNotices :=
  List.filter_sublist

theorem allNotices_nodup : allNotices.Nodup := by decide

/-- The notices appended at a close are new and none twice (R203). -/
theorem newNotices_nodup (held raised : List Notice) : (newNotices held raised).Nodup :=
  allNotices_nodup.sublist (newNotices_sublist held raised)

theorem mem_allNotices (n : Notice) : n ∈ allNotices := by
  cases n with
  | lane i => revert i; decide
  | survey i => revert i; decide
  | prompt d => revert d; decide
  | timer t => revert t; decide
  | clock => decide
  | grant => decide
  | sections k => cases k <;> decide
  | profile p => revert p; decide

/-- A notice is appended at a close exactly when it was raised and is not in the list (R203). -/
theorem mem_newNotices {held raised : List Notice} {n : Notice} :
    n ∈ newNotices held raised ↔ n ∈ raised ∧ n ∉ held := by
  simp [newNotices, mem_allNotices]

end Sys2Proof.Machine
end

