-- ==== Sys2Proof/Laws/Outside.lean ====
section
/-!
SUPPORT. What no operation of the blocks can touch: the queue, the reset line, the pending list, the return
queue and the ports, the service table, the vote depth and the unit address. Commands and the outputs alone
write these.
-/

namespace Sys2Proof.Machine

/-- The part of the state that no operation of the blocks writes. -/
def State.outside (s : State) :=
  (s.pending, s.resetHeld, s.services, s.voteDepth, s.unitAddress, s.notices, s.returnQueue, s.returnCount,
    s.returnPort, s.decoders, s.recorder, s.lastGranted, s.decoderReady, s.recorderReady, s.returnReady)

/-- What equality of `outside` says, field by field. -/
theorem State.outside_eq {s t : State} (h : s.outside = t.outside) :
    s.pending = t.pending ∧ s.resetHeld = t.resetHeld ∧ s.services = t.services ∧ s.voteDepth = t.voteDepth ∧
    s.unitAddress = t.unitAddress ∧ s.notices = t.notices ∧ s.returnQueue = t.returnQueue ∧
    s.returnCount = t.returnCount ∧ s.returnPort = t.returnPort ∧ s.decoders = t.decoders ∧
    s.recorder = t.recorder ∧ s.lastGranted = t.lastGranted ∧ s.decoderReady = t.decoderReady ∧
    s.recorderReady = t.recorderReady ∧ s.returnReady = t.returnReady := by
  simpa [State.outside] using h

/-- A fold of operations on an event leaves `outside` unchanged when each of them does. -/
theorem Ev.foldl_outside {α : Type} {f : Ev → α → Ev} (h : ∀ e x, (f e x).now.outside = e.now.outside)
    (xs : List α) (e : Ev) : (xs.foldl f e).now.outside = e.now.outside :=
  foldl_same (fun e : Ev => e.now.outside) h xs e

/-- A fold of operations on a state leaves `outside` unchanged when each of them does. -/
theorem State.foldl_outside {α : Type} {f : State → α → State} (h : ∀ s x, (f s x).outside = s.outside)
    (xs : List α) (s : State) : (xs.foldl f s).outside = s.outside :=
  foldl_same State.outside h xs s

@[simp] theorem State.modLane_outside (s : State) (i : Fin 6) (f : Lane → Lane) :
    (s.modLane i f).outside = s.outside := by simp [State.outside]
@[simp] theorem State.modSurvey_outside (s : State) (i : Fin 6) (f : SurveyTable → SurveyTable) :
    (s.modSurvey i f).outside = s.outside := by simp [State.outside]
@[simp] theorem State.setSlot_outside (s : State) (k : Fin 16) (r : Option KeySlot) :
    (s.setSlot k r).outside = s.outside := by simp [State.outside]
@[simp] theorem State.modSlot_outside (s : State) (k : Fin 16) (f : KeySlot → KeySlot) :
    (s.modSlot k f).outside = s.outside := by simp [State.outside]
@[simp] theorem State.modTimer_outside (s : State) (t : Fin 24) (f : Timer → Timer) :
    (s.modTimer t f).outside = s.outside := by simp [State.outside]
@[simp] theorem State.modProfile_outside (s : State) (p : Fin 4) (f : Profile → Profile) :
    (s.modProfile p f).outside = s.outside := by simp [State.outside]
@[simp] theorem State.modArbiter_outside (s : State) (d : Fin 2) (f : Arbiter → Arbiter) :
    (s.modArbiter d f).outside = s.outside := by simp [State.outside]
@[simp] theorem State.modInput_outside (s : State) (n : Input) (f : InputState → InputState) :
    (s.modInput n f).outside = s.outside := by simp [State.outside]
@[simp] theorem State.modSectionRecord_outside (s : State) (k : SectionKind) (f : SectionRecord → SectionRecord) :
    (s.modSectionRecord k f).outside = s.outside := by simp [State.outside]
@[simp] theorem State.modClock_outside (s : State) (f : Clock → Clock) :
    (s.modClock f).outside = s.outside := by simp [State.outside]
@[simp] theorem State.setGrants_outside (s : State) (gs : List Grant) :
    (s.setGrants gs).outside = s.outside := by simp [State.outside]
@[simp] theorem State.rescan_outside (s : State) :
    (s.rescan).outside = s.outside := by simp [State.outside]
@[simp] theorem State.modEntry_outside (s : State) (n : Input) (stream : Nat) (f : MapEntry → MapEntry) :
    (s.modEntry n stream f).outside = s.outside := by simp [State.outside]
@[simp] theorem State.leave_outside (s : State) (i : Fin 6) :
    (s.leave i).outside = s.outside := by simp [State.outside]
@[simp] theorem State.freeSlots_outside (s : State) (p : KeySlot → Bool) :
    (s.freeSlots p).outside = s.outside := by simp [State.outside]
@[simp] theorem State.detach_outside (s : State) (i : Fin 6) :
    (s.detach i).outside = s.outside := by simp [State.outside]
@[simp] theorem State.detachKeeping_outside (s : State) (i : Fin 6) (keep : List (Input × Nat)) :
    (s.detachKeeping i keep).outside = s.outside := by simp [State.outside]
@[simp] theorem State.draw_outside (s : State) :
    (s.draw).outside = s.outside := by simp [State.outside]
@[simp] theorem State.evaluate_outside (s : State) (i : Fin 6) :
    (s.evaluate i).outside = s.outside := by
  unfold State.evaluate
  repeat' split
  all_goals simp
@[simp] theorem State.evaluateAll_outside (s : State) :
    (s.evaluateAll).outside = s.outside := by
  unfold State.evaluateAll
  refine State.foldl_outside (fun s i => ?_) _ _
  simp
@[simp] theorem State.evaluateProfile_outside (s : State) (p : Fin 4) :
    (s.evaluateProfile p).outside = s.outside := by
  unfold State.evaluateProfile
  refine State.foldl_outside (fun s i => ?_) _ _
  split <;> simp
@[simp] theorem State.evaluateBudget_outside (s : State) (p : Fin 4) :
    (s.evaluateBudget p).outside = s.outside := by
  unfold State.evaluateBudget
  refine State.foldl_outside (fun s i => ?_) _ _
  split <;> simp
@[simp] theorem State.takeSlot_outside (s : State) (i : Fin 6) (n : Input) (stream : Nat) :
    (s.takeSlot i n stream).outside = s.outside := by
  unfold State.takeSlot
  repeat' split
  all_goals simp
@[simp] theorem State.installComponent_outside (i : Fin 6) (n : Input) (k : Option (Fin 16)) (s : State) (c : Component) :
    (s.installComponent i n k c).outside = s.outside := by
  unfold State.installComponent
  split
  · simp
  · rfl
@[simp] theorem State.installKeyEntry_outside (s : State) (n : Input) (stream : Nat) :
    (s.installKeyEntry n stream).outside = s.outside := by
  unfold State.installKeyEntry
  split <;> simp [State.outside]
@[simp] theorem State.install_outside (s : State) (i : Fin 6) (n : Input) (r : Service) :
    (s.install i n r).outside = s.outside := by
  unfold State.install
  split
  · exact State.foldl_outside (fun s c => by simp) _ _
  · exact (State.foldl_outside (fun s c => by simp) _ _).trans (by simp)
@[simp] theorem State.freeUnused_outside (s : State) (pairs : List (Input × Nat)) :
    (s.freeUnused pairs).outside = s.outside := State.freeSlots_outside s _
@[simp] theorem Ev.giveUp_outside (e : Ev) (i : Fin 6) :
    (e.giveUp i).now.outside = e.now.outside := State.detachKeeping_outside e.now i e.keep
@[simp] theorem Ev.installFor_outside (e : Ev) (i : Fin 6) (n : Input) (r : Service) :
    (e.installFor i n r).now.outside = e.now.outside := by simp
@[simp] theorem Ev.reinstall_outside (e : Ev) (i : Fin 6) (n : Input) (r : Service) :
    (e.reinstall i n r).now.outside = e.now.outside := by
  unfold Ev.reinstall
  simp
/-- Keeping what is taken again leaves `outside` as the parts of the event leave it. -/
@[simp] theorem Ev.keepingRetaken_outside (e : Ev) {body : Ev → Ev}
    (h : ∀ e, (body e).now.outside = e.now.outside) : (e.keepingRetaken body).now.outside = e.now.outside := by
  unfold Ev.keepingRetaken
  split
  · exact h e
  · simpa using h _
@[simp] theorem State.takeKeys_outside (s : State) (k : Fin 16) (body : List Byte) :
    (s.takeKeys k body).outside = s.outside := by
  unfold State.takeKeys
  split
  · simp
  · exact State.foldl_outside (fun s x => by simp) _ _
@[simp] theorem State.setAccess_outside (s : State) (users : List (Fin 6)) (access : Bool) :
    (s.setAccess users access).outside = s.outside := by
  unfold State.setAccess
  refine State.foldl_outside (fun s i => ?_) _ _
  simp
@[simp] theorem State.slotEffect_outside (s : State) (v : Option (Fin 16 × KeySlot × Option Bool)) :
    (s.slotEffect v).outside = s.outside := by
  unfold State.slotEffect
  split
  · rfl
  · dsimp only
    split <;> simp
@[simp] theorem State.addGrant_outside (s : State) (product start : Nat) (stop : Option Nat) :
    (s.addGrant product start stop).outside = s.outside := by
  unfold State.addGrant
  split
  · simp
  · dsimp only
    split
    · simp
    · split
      · simp
      · simp [State.outside]
@[simp] theorem State.collect_outside (s : State) (sequence : Nat) :
    (s.collect sequence).outside = s.outside := rfl
@[simp] theorem State.tickPhaseRaised_outside (s : State) :
    (s.tickPhaseRaised).outside = s.outside := by
  unfold State.tickPhaseRaised
  split <;> rfl

@[simp] theorem Ev.notice_outside (e : Ev) (n : Notice) :
    (e.notice n).now.outside = e.now.outside := by simp
@[simp] theorem Ev.noticeIf_outside (e : Ev) (c : Bool) (n : Notice) :
    (e.noticeIf c n).now.outside = e.now.outside := by simp
@[simp] theorem Ev.lane_outside (e : Ev) (i : Fin 6) (f : Lane → Lane × Bool) :
    (e.lane i f).now.outside = e.now.outside := by simp
@[simp] theorem Ev.arbiter_outside (e : Ev) (d : Fin 2) (f : Arbiter → Arbiter × Bool) :
    (e.arbiter d f).now.outside = e.now.outside := by simp
@[simp] theorem Ev.withdrawLevels_outside (e : Ev) (d : Fin 2) :
    (e.withdrawLevels d).now.outside = e.now.outside := by
  unfold Ev.withdrawLevels
  dsimp only
  rw [Ev.foldl_outside (fun e x => by simp)]
@[simp] theorem Ev.profileChange_outside (e : Ev) (p : Fin 4) (c : ProfileChange) :
    (e.profileChange p c).now.outside = e.now.outside := by
  unfold Ev.profileChange
  try dsimp only
  all_goals simp
@[simp] theorem Ev.dayCheck_outside (e : Ev) (p : Fin 4) (day : Nat) :
    (e.dayCheck p day).now.outside = e.now.outside := by
  unfold Ev.dayCheck
  try dsimp only
  repeat' split
  all_goals simp
@[simp] theorem Ev.countSecond_outside (e : Ev) (p : Fin 4) :
    (e.countSecond p).now.outside = e.now.outside := by
  unfold Ev.countSecond
  try dsimp only
  repeat' split
  all_goals simp
@[simp] theorem Ev.lockoutSecond_outside (e : Ev) (p : Fin 4) :
    (e.lockoutSecond p).now.outside = e.now.outside := by
  unfold Ev.lockoutSecond
  try dsimp only
  repeat' split
  all_goals simp
@[simp] theorem Ev.periodSecond_outside (e : Ev) (p : Fin 4) :
    (e.periodSecond p).now.outside = e.now.outside := by
  unfold Ev.periodSecond
  try dsimp only
  repeat' split
  all_goals simp
@[simp] theorem Ev.profileSecond_outside (e : Ev) (d : Option Nat) (p : Fin 4) :
    (e.profileSecond d p).now.outside = e.now.outside := by
  unfold Ev.profileSecond
  try dsimp only
  repeat' split
  all_goals simp
@[simp] theorem Ev.profilesSecond_outside (e : Ev) (d : Option Nat) :
    (e.profilesSecond d).now.outside = e.now.outside := by
  unfold Ev.profilesSecond
  simpa using Ev.foldl_outside (fun e x => by simp) _ e
@[simp] theorem Ev.profilesStep_outside (e : Ev) :
    (e.profilesStep).now.outside = e.now.outside := by
  unfold Ev.profilesStep
  simpa using Ev.foldl_outside (fun e x => by simp) _ e
@[simp] theorem Ev.correctPin_outside (e : Ev) (p : Fin 4) :
    (e.correctPin p).now.outside = e.now.outside := by
  unfold Ev.correctPin
  try dsimp only
  all_goals simp
@[simp] theorem Ev.wrongPin_outside (e : Ev) (p : Fin 4) :
    (e.wrongPin p).now.outside = e.now.outside := by
  unfold Ev.wrongPin
  try dsimp only
  repeat' split
  all_goals simp
@[simp] theorem Ev.recomputeCopy_outside (e : Ev) (i : Fin 6) :
    (e.recomputeCopy i).now.outside = e.now.outside := by
  unfold Ev.recomputeCopy
  try dsimp only
  repeat' split
  all_goals simp
@[simp] theorem Ev.recomputeCopies_outside (e : Ev) :
    (e.recomputeCopies).now.outside = e.now.outside := by
  unfold Ev.recomputeCopies
  refine Ev.foldl_outside (fun e x => ?_) _ _
  simp
@[simp] theorem Ev.takeGuide_outside (e : Ev) (body : List Byte) :
    (e.takeGuide body).now.outside = e.now.outside := by
  unfold Ev.takeGuide
  split
  · rfl
  · dsimp only
    split
    · rfl
    · rw [Ev.recomputeCopies_outside]; rfl
@[simp] theorem Ev.tuneLane_outside (e : Ev) (i : Fin 6) (r : Service) (n : Input) (p : Option (Fin 4)) (a : Option Nat) :
    (e.tuneLane i r n p a).now.outside = e.now.outside := by
  unfold Ev.tuneLane
  try dsimp only
  repeat' split
  all_goals simp
@[simp] theorem Ev.untuneLane_outside (e : Ev) (i : Fin 6) (c : LaneChange) :
    (e.untuneLane i c).now.outside = e.now.outside := by
  unfold Ev.untuneLane
  try dsimp only
  repeat' split
  all_goals simp
@[simp] theorem Ev.autoStopSecond_outside (e : Ev) (i : Fin 6) :
    (e.autoStopSecond i).now.outside = e.now.outside := by
  unfold Ev.autoStopSecond
  try dsimp only
  repeat' split
  all_goals simp
@[simp] theorem Ev.loseLane_outside (e : Ev) (i : Fin 6) :
    (e.loseLane i).now.outside = e.now.outside := by
  unfold Ev.loseLane
  try dsimp only
  all_goals simp
@[simp] theorem Ev.reacquire_outside (e : Ev) (i : Fin 6) :
    (e.reacquire i).now.outside = e.now.outside := by
  unfold Ev.reacquire
  try dsimp only
  repeat' split
  all_goals simp
@[simp] theorem Ev.leadArrival_outside (e : Ev) (i : Fin 6) (a : LeadArrival) :
    (e.leadArrival i a).now.outside = e.now.outside := by
  unfold Ev.leadArrival
  try dsimp only
  repeat' split
  all_goals simp
@[simp] theorem Ev.goodEvent_outside (e : Ev) (i : Fin 6) :
    (e.goodEvent i).now.outside = e.now.outside := by
  unfold Ev.goodEvent
  try dsimp only
  repeat' split
  all_goals simp
@[simp] theorem Ev.errorReport_outside (e : Ev) (i : Fin 6) :
    (e.errorReport i).now.outside = e.now.outside := by
  unfold Ev.errorReport
  try dsimp only
  repeat' split
  all_goals simp
@[simp] theorem Ev.endSurvey_outside (e : Ev) (i : Fin 6) :
    (e.endSurvey i).now.outside = e.now.outside := by
  unfold Ev.endSurvey
  try dsimp only
  all_goals simp
@[simp] theorem Ev.takeUp_outside (e : Ev) (i : Fin 6) (left position : Nat) :
    (e.takeUp i left position).now.outside = e.now.outside := by
  induction left generalizing e position with
  | zero => simp [Ev.takeUp]
  | succ n ih =>
    unfold Ev.takeUp
    split
    · simp
    · split
      · rw [ih]; simp
      · simp
@[simp] theorem Ev.takeUpFrom_outside (e : Ev) (i : Fin 6) (position : Nat) :
    (e.takeUpFrom i position).now.outside = e.now.outside := by
  unfold Ev.takeUpFrom
  try dsimp only
  all_goals simp
@[simp] theorem Ev.endTurn_outside (e : Ev) (i : Fin 6) (o : SurveyOutcome) :
    (e.endTurn i o).now.outside = e.now.outside := by
  unfold Ev.endTurn
  try dsimp only
  all_goals simp
@[simp] theorem Ev.turnDone_outside (e : Ev) (i : Fin 6) :
    (e.turnDone i).now.outside = e.now.outside := by
  unfold Ev.turnDone
  try dsimp only
  all_goals simp
@[simp] theorem Ev.abortSurvey_outside (e : Ev) (i : Fin 6) :
    (e.abortSurvey i).now.outside = e.now.outside := by
  unfold Ev.abortSurvey
  try dsimp only
  all_goals simp
@[simp] theorem Ev.abortIfSurveying_outside (e : Ev) (i : Fin 6) :
    (e.abortIfSurveying i).now.outside = e.now.outside := by
  unfold Ev.abortIfSurveying
  try dsimp only
  repeat' split
  all_goals simp
@[simp] theorem Ev.startSurvey_outside (e : Ev) (i : Fin 6) (services : List Nat) :
    (e.startSurvey i services).now.outside = e.now.outside := by
  unfold Ev.startSurvey
  try dsimp only
  all_goals simp
@[simp] theorem Ev.grantChange_outside (e : Ev) (c : GrantChange) :
    (e.grantChange c).now.outside = e.now.outside := rfl
@[simp] theorem Ev.expire_outside (e : Ev) :
    (e.expire).now.outside = e.now.outside := by
  unfold Ev.expire
  try dsimp only
  repeat' split
  all_goals simp
@[simp] theorem Ev.expireAndRescan_outside (e : Ev) :
    (e.expireAndRescan).now.outside = e.now.outside := by
  unfold Ev.expireAndRescan
  try dsimp only
  repeat' split
  all_goals simp
@[simp] theorem Ev.takeGrant_outside (e : Ev) (body : List Byte) :
    (e.takeGrant body).now.outside = e.now.outside := by
  have hop : ∀ (s : State) (op : GrantOp), (s.grantOp op).1.outside = s.outside := by
    intro s op
    cases op with
    | add p a b => exact State.addGrant_outside s p a b
    | remove p => simp [State.grantOp]
    | ceiling v => rfl
    | collect n => exact State.collect_outside s n
  have hrun : ∀ (ops : List GrantOp) (r : GrantRun), (ops.foldl GrantRun.apply r).state.outside = r.state.outside :=
    fun ops r => foldl_same (fun r : GrantRun => r.state.outside) (fun r op => hop r.state op) ops r
  unfold Ev.takeGrant
  split
  · rfl
  · split
    · dsimp only
      split
      · rw [Ev.grantChange_outside]
        simp only [Ev.on_now]
        split
        · rw [State.rescan_outside, hrun]; rfl
        · rw [hrun]; rfl
      · simp only [Ev.on_now]
        split
        · rw [State.rescan_outside, hrun]; rfl
        · rw [hrun]; rfl
    · rfl
@[simp] theorem Ev.requestPrompt_outside (e : Ev) (d : Fin 2) (k : Fin 8) (c : PromptContext) :
    (e.requestPrompt d k c).now.outside = e.now.outside := by
  unfold Ev.requestPrompt
  try dsimp only
  all_goals simp
@[simp] theorem Ev.remind_outside (e : Ev) (t : Fin 24) :
    (e.remind t).now.outside = e.now.outside := by
  unfold Ev.remind
  try dsimp only
  repeat' split
  all_goals simp
@[simp] theorem Ev.record_outside (e : Ev) (t : Fin 24) :
    (e.record t).1.now.outside = e.now.outside := by
  unfold Ev.record
  try dsimp only
  repeat' split
  all_goals simp
@[simp] theorem Ev.timerAction_outside (e : Ev) (t : Fin 24) :
    (e.timerAction t).1.now.outside = e.now.outside := by
  unfold Ev.timerAction
  try dsimp only
  repeat' split
  all_goals simp
@[simp] theorem Ev.evaluateTimer_outside (e : Ev) (j : Nat) (t : Fin 24) :
    (e.evaluateTimer j t).now.outside = e.now.outside := by
  unfold Ev.evaluateTimer
  split
  · dsimp only
    simp
  · rfl
@[simp] theorem Ev.evaluateTimers_outside (e : Ev) (j : Nat) :
    (e.evaluateTimers j).now.outside = e.now.outside := by
  unfold Ev.evaluateTimers
  refine Ev.foldl_outside (fun e x => ?_) _ _
  simp
@[simp] theorem Ev.catchUp_outside (e : Ev) (old new : Nat) :
    (e.catchUp old new).now.outside = e.now.outside := by
  unfold Ev.catchUp
  exact Ev.foldl_outside (fun e x => by simp) _ _
@[simp] theorem Ev.timeChanged_outside (e : Ev) (old : Option Nat) (d : Option Int) :
    (e.timeChanged old d).now.outside = e.now.outside := by
  unfold Ev.timeChanged
  try dsimp only
  repeat' split
  all_goals simp
@[simp] theorem Ev.stepClock_outside (e : Ev) (time : Nat) (c : ClockChange) (d : Option Int) :
    (e.stepClock time c d).now.outside = e.now.outside := by
  unfold Ev.stepClock
  try dsimp only
  all_goals simp
@[simp] theorem Ev.judgeTime_outside (e : Ev) (time : Nat) :
    (e.judgeTime time).now.outside = e.now.outside := by
  unfold Ev.judgeTime
  try dsimp only
  repeat' split
  all_goals simp
@[simp] theorem Ev.takeTime_outside (e : Ev) (body : List Byte) :
    (e.takeTime body).now.outside = e.now.outside := by
  unfold Ev.takeTime
  try dsimp only
  repeat' split
  all_goals simp
@[simp] theorem Ev.timersSecond_outside (e : Ev) (m : Option Nat) :
    (e.timersSecond m).now.outside = e.now.outside := by
  unfold Ev.timersSecond
  try dsimp only
  repeat' split
  all_goals simp
@[simp] theorem Ev.secondAt_outside (e : Ev) (a b : Bool) :
    (e.secondAt a b).now.outside = e.now.outside := by
  have hs : ∀ (ds : List (Fin 6)) (e : Ev), (ds.foldl Ev.autoStopSecond e).now.outside = e.now.outside :=
    fun ds e => Ev.foldl_outside (fun e x => by simp) ds e
  have hm : ∀ s : State, (s.modClock fun c => if c.valid then c.markLocal else c).outside = s.outside :=
    fun s => State.modClock_outside s _
  unfold Ev.secondAt
  cases a <;> cases b <;> simp [hs, hm]
@[simp] theorem Ev.second_outside (e : Ev) :
    (e.second).now.outside = e.now.outside := by
  unfold Ev.second
  try dsimp only
  all_goals simp
@[simp] theorem Ev.turnCheck_outside (e : Ev) (i : Fin 6) :
    (e.turnCheck i).now.outside = e.now.outside := by
  unfold Ev.turnCheck
  try dsimp only
  repeat' split
  all_goals simp
@[simp] theorem Ev.tickLane_outside (e : Ev) (i : Fin 6) :
    (e.tickLane i).now.outside = e.now.outside := by
  unfold Ev.tickLane
  try dsimp only
  all_goals simp
@[simp] theorem Ev.tickLanes_outside (e : Ev) :
    (e.tickLanes).now.outside = e.now.outside := by
  unfold Ev.tickLanes
  refine Ev.foldl_outside (fun e x => ?_) _ _
  simp
@[simp] theorem Ev.tick_outside (e : Ev) :
    (e.tick).now.outside = e.now.outside := by
  unfold Ev.tick
  try dsimp only
  repeat' split
  all_goals simp
@[simp] theorem Ev.secondRow_outside (e : Ev) :
    (e.secondRow).now.outside = e.now.outside := by
  unfold Ev.secondRow
  split
  · rfl
  · simp
@[simp] theorem Ev.discardSection_outside (e : Ev) (r : SectionKind) (c : DiscardCause) (n : Input) (stream : Nat) :
    (e.discardSection r c n stream).now.outside = e.now.outside := by
  unfold Ev.discardSection
  try dsimp only
  all_goals simp
@[simp] theorem Ev.discardPartial_outside (e : Ev) (en : MapEntry) (c : DiscardCause) :
    (e.discardPartial en c).now.outside = e.now.outside := by
  unfold Ev.discardPartial
  try dsimp only
  repeat' split
  all_goals simp
@[simp] theorem Ev.resetContinuity_outside (e : Ev) (n : Input) (c : DiscardCause) :
    (e.resetContinuity n c).now.outside = e.now.outside := by
  unfold Ev.resetContinuity
  exact (Ev.foldl_outside (fun e x => by simp) _ _).trans rfl
@[simp] theorem Ev.handSection_outside (e : Ev) (r : SectionKind) (n : Input) (stream : Nat) (body : List Byte) :
    (e.handSection r n stream body).now.outside = e.now.outside := by
  unfold Ev.handSection
  try dsimp only
  repeat' split
  all_goals simp
@[simp] theorem Ev.completeSection_outside (e : Ev) (r : SectionKind) (n : Input) (stream : Nat) (bs : List Byte) :
    (e.completeSection r n stream bs).now.outside = e.now.outside := by
  unfold Ev.completeSection
  try dsimp only
  repeat' split
  all_goals simp
@[simp] theorem Ev.gather_outside (e : Ev) (r : SectionKind) (n : Input) (stream : Nat) (held : List Byte) (expected : Nat) :
    (e.gather r n stream held expected).now.outside = e.now.outside := by
  unfold Ev.gather
  try dsimp only
  repeat' split
  all_goals simp
@[simp] theorem Ev.beginSection_outside (e : Ev) (r : SectionKind) (n : Input) (stream : Nat) (bs : List Byte) :
    (e.beginSection r n stream bs).now.outside = e.now.outside := by
  unfold Ev.beginSection
  try dsimp only
  repeat' split
  all_goals simp
@[simp] theorem Ev.collect_outside (e : Ev) (en : MapEntry) (p : Packet) :
    (e.collect en p).now.outside = e.now.outside := by
  unfold Ev.collect
  try dsimp only
  repeat' split
  all_goals simp
@[simp] theorem Ev.leadArrivals_outside (e : Ev) (en : MapEntry) (ds : List (Fin 6)) (a : LeadArrival) :
    (e.leadArrivals en ds a).now.outside = e.now.outside := by
  unfold Ev.leadArrivals
  refine Ev.foldl_outside (fun e x => ?_) _ _
  split <;> simp
@[simp] theorem Ev.errorReports_outside (e : Ev) (ds : List (Fin 6)) :
    (e.errorReports ds).now.outside = e.now.outside := by
  unfold Ev.errorReports
  refine Ev.foldl_outside (fun e x => ?_) _ _
  simp
@[simp] theorem Ev.damaged_outside (e : Ev) (en : MapEntry) (p : Packet) (c : Option (BitVec 4)) (m : Bool) :
    (e.damaged en p c m).now.outside = e.now.outside := by
  unfold Ev.damaged
  try dsimp only
  repeat' split
  all_goals simp
@[simp] theorem Ev.messagePacket_outside (e : Ev) (en : MapEntry) (p : Packet) (o : Outcome) :
    (e.messagePacket en p o).now.outside = e.now.outside := by
  unfold Ev.messagePacket
  try dsimp only
  repeat' split
  all_goals simp
@[simp] theorem Ev.offers_outside (e : Ev) (en : MapEntry) (ds : List (Fin 6)) (p : Packet) (a : Bool) :
    (e.offers en ds p a).now.outside = e.now.outside := by
  unfold Ev.offers
  refine Ev.foldl_outside (fun e x => ?_) _ _
  simp
@[simp] theorem Ev.closeGates_outside (e : Ev) :
    (e.closeGates).now.outside = e.now.outside := rfl
@[simp] theorem Ev.componentPacket_outside (e : Ev) (en : MapEntry) (ds : List (Fin 6)) (k : Option (Fin 16)) (p : Packet) (o : Outcome) :
    (e.componentPacket en ds k p o).now.outside = e.now.outside := by
  have hg : ∀ (ds : List (Fin 6)) (e : Ev), (ds.foldl Ev.goodEvent e).now.outside = e.now.outside :=
    fun ds e => Ev.foldl_outside (fun e x => by simp) ds e
  unfold Ev.componentPacket
  dsimp only
  split
  · simp
  · repeat' split
    all_goals simp [hg]
@[simp] theorem Ev.entryPacket_outside (e : Ev) (en : MapEntry) (p : Packet) :
    (e.entryPacket en p).now.outside = e.now.outside := by
  unfold Ev.entryPacket
  try dsimp only
  repeat' split
  all_goals simp
@[simp] theorem Ev.badSync_outside (e : Ev) (n : Input) :
    (e.badSync n).now.outside = e.now.outside := by
  unfold Ev.badSync
  try dsimp only
  repeat' split
  all_goals simp
@[simp] theorem Ev.cable_outside (e : Ev) (n : Input) (p : Packet) :
    (e.cable n p).now.outside = e.now.outside := by
  unfold Ev.cable
  try dsimp only
  repeat' split
  all_goals simp
@[simp] theorem Ev.lossPass_outside (e : Ev) (n : Input) (i : Fin 6) :
    (e.lossPass n i).now.outside = e.now.outside := by
  unfold Ev.lossPass
  try dsimp only
  repeat' split
  all_goals simp
@[simp] theorem Ev.redeclare_outside (e : Ev) (n : Input) (m : Option Nat) :
    (e.redeclare n m).now.outside = e.now.outside := by
  unfold Ev.redeclare
  dsimp only
  refine (Ev.foldl_outside (fun e x => by simp) _ _).trans ?_
  refine (Ev.foldl_outside (fun e x => by simp) _ _).trans ?_
  refine (Ev.foldl_outside (fun e x => by simp) _ _).trans ?_
  simp
@[simp] theorem Ev.followLevel_outside (e : Ev) (d : Fin 2) (k : Fin 8) :
    (e.followLevel d k).now.outside = e.now.outside := by
  unfold Ev.followLevel
  try dsimp only
  repeat' split
  all_goals simp
@[simp] theorem Ev.followLevels_outside (e : Ev) (d : Fin 2) :
    (e.followLevels d).now.outside = e.now.outside := by
  unfold Ev.followLevels
  refine Ev.foldl_outside (fun e x => ?_) _ _
  simp
@[simp] theorem Ev.followEligible_outside (e : Ev) (d : Fin 2) :
    (e.followEligible d).now.outside = e.now.outside := by
  unfold Ev.followEligible
  try dsimp only
  repeat' split
  all_goals simp
@[simp] theorem Ev.closePrompts_outside (e : Ev) :
    (e.closePrompts).now.outside = e.now.outside := by
  unfold Ev.closePrompts
  dsimp only
  exact (Ev.foldl_outside (fun e x => by simp) _ _).trans (Ev.foldl_outside (fun e x => by simp) _ _)

/-- What the close of an event leaves unchanged beside the pending list: everything but the lanes, the
arbiters and the list itself. -/
theorem Ev.closePrompts_keeps {γ : Type} (g : State → γ)
    (h : ∀ s d f, g (State.modArbiter s d f) = g s) (e : Ev) : g e.closePrompts.now = g e.now := by
  have ha : ∀ (e : Ev) d f, g (e.arbiter d f).now = g e.now := by
    intro e d f; rw [Ev.arbiter_now]; exact h _ _ _
  have hl : ∀ (e : Ev) d k, g (e.followLevel d k).now = g e.now := by
    intro e d k
    unfold Ev.followLevel
    dsimp only
    repeat' split
    all_goals first | rfl | exact ha _ _ _
  have he : ∀ (e : Ev) d, g (e.followEligible d).now = g e.now := by
    intro e d
    unfold Ev.followEligible
    split
    · exact ha _ _ _
    · rfl
  unfold Ev.closePrompts
  exact (foldl_same (fun e : Ev => g e.now) (fun e d => he e d) _ _).trans
    (foldl_same (fun e : Ev => g e.now)
      (fun e d => foldl_same (fun e : Ev => g e.now) (fun e k => hl e d k) _ _) _ _)

/-- A projection that sees neither the lanes, the arbiters nor the pending list is unchanged by the close. -/
theorem Ev.close_keeps {γ : Type} (g : State → γ) (hl : ∀ s x, g { s with lanes := x } = g s)
    (ha : ∀ s d f, g (State.modArbiter s d f) = g s) (hn : ∀ s x, g { s with notices := x } = g s) (e : Ev) :
    g e.close = g e.now := by
  unfold Ev.close
  rw [hn, Ev.closePrompts_keeps g ha]
  exact hl _ _

@[simp] theorem Ev.close_pending (e : Ev) : e.close.pending = e.now.pending :=
  Ev.close_keeps State.pending (fun _ _ => rfl) State.modArbiter_pending (fun _ _ => rfl) e
@[simp] theorem Ev.close_resetHeld (e : Ev) : e.close.resetHeld = e.now.resetHeld :=
  Ev.close_keeps State.resetHeld (fun _ _ => rfl) State.modArbiter_resetHeld (fun _ _ => rfl) e
@[simp] theorem Ev.close_inputA (e : Ev) : e.close.inputA = e.now.inputA :=
  Ev.close_keeps State.inputA (fun _ _ => rfl) State.modArbiter_inputA (fun _ _ => rfl) e
@[simp] theorem Ev.close_inputB (e : Ev) : e.close.inputB = e.now.inputB :=
  Ev.close_keeps State.inputB (fun _ _ => rfl) State.modArbiter_inputB (fun _ _ => rfl) e
@[simp] theorem Ev.close_map (e : Ev) : e.close.map = e.now.map :=
  Ev.close_keeps State.map (fun _ _ => rfl) State.modArbiter_map (fun _ _ => rfl) e
@[simp] theorem Ev.close_keySections (e : Ev) : e.close.keySections = e.now.keySections :=
  Ev.close_keeps State.keySections (fun _ _ => rfl) State.modArbiter_keySections (fun _ _ => rfl) e
@[simp] theorem Ev.close_grantSections (e : Ev) : e.close.grantSections = e.now.grantSections :=
  Ev.close_keeps State.grantSections (fun _ _ => rfl) State.modArbiter_grantSections (fun _ _ => rfl) e
@[simp] theorem Ev.close_timeSections (e : Ev) : e.close.timeSections = e.now.timeSections :=
  Ev.close_keeps State.timeSections (fun _ _ => rfl) State.modArbiter_timeSections (fun _ _ => rfl) e
@[simp] theorem Ev.close_guideSections (e : Ev) : e.close.guideSections = e.now.guideSections :=
  Ev.close_keeps State.guideSections (fun _ _ => rfl) State.modArbiter_guideSections (fun _ _ => rfl) e
@[simp] theorem Ev.close_services (e : Ev) : e.close.services = e.now.services :=
  Ev.close_keeps State.services (fun _ _ => rfl) State.modArbiter_services (fun _ _ => rfl) e
@[simp] theorem Ev.close_surveys (e : Ev) : e.close.surveys = e.now.surveys :=
  Ev.close_keeps State.surveys (fun _ _ => rfl) State.modArbiter_surveys (fun _ _ => rfl) e
@[simp] theorem Ev.close_slots (e : Ev) : e.close.slots = e.now.slots :=
  Ev.close_keeps State.slots (fun _ _ => rfl) State.modArbiter_slots (fun _ _ => rfl) e
@[simp] theorem Ev.close_voteDepth (e : Ev) : e.close.voteDepth = e.now.voteDepth :=
  Ev.close_keeps State.voteDepth (fun _ _ => rfl) State.modArbiter_voteDepth (fun _ _ => rfl) e
@[simp] theorem Ev.close_entitlement (e : Ev) : e.close.entitlement = e.now.entitlement :=
  Ev.close_keeps State.entitlement (fun _ _ => rfl) State.modArbiter_entitlement (fun _ _ => rfl) e
@[simp] theorem Ev.close_unitAddress (e : Ev) : e.close.unitAddress = e.now.unitAddress :=
  Ev.close_keeps State.unitAddress (fun _ _ => rfl) State.modArbiter_unitAddress (fun _ _ => rfl) e
@[simp] theorem Ev.close_clock (e : Ev) : e.close.clock = e.now.clock :=
  Ev.close_keeps State.clock (fun _ _ => rfl) State.modArbiter_clock (fun _ _ => rfl) e
@[simp] theorem Ev.close_tickPhase (e : Ev) : e.close.tickPhase = e.now.tickPhase :=
  Ev.close_keeps State.tickPhase (fun _ _ => rfl) State.modArbiter_tickPhase (fun _ _ => rfl) e
@[simp] theorem Ev.close_secondTaken (e : Ev) : e.close.secondTaken = e.now.secondTaken :=
  Ev.close_keeps State.secondTaken (fun _ _ => rfl) State.modArbiter_secondTaken (fun _ _ => rfl) e
@[simp] theorem Ev.close_guide (e : Ev) : e.close.guide = e.now.guide :=
  Ev.close_keeps State.guide (fun _ _ => rfl) State.modArbiter_guide (fun _ _ => rfl) e
@[simp] theorem Ev.close_timers (e : Ev) : e.close.timers = e.now.timers :=
  Ev.close_keeps State.timers (fun _ _ => rfl) State.modArbiter_timers (fun _ _ => rfl) e
@[simp] theorem Ev.close_profiles (e : Ev) : e.close.profiles = e.now.profiles :=
  Ev.close_keeps State.profiles (fun _ _ => rfl) State.modArbiter_profiles (fun _ _ => rfl) e
@[simp] theorem Ev.close_returnQueue (e : Ev) : e.close.returnQueue = e.now.returnQueue :=
  Ev.close_keeps State.returnQueue (fun _ _ => rfl) State.modArbiter_returnQueue (fun _ _ => rfl) e
@[simp] theorem Ev.close_returnCount (e : Ev) : e.close.returnCount = e.now.returnCount :=
  Ev.close_keeps State.returnCount (fun _ _ => rfl) State.modArbiter_returnCount (fun _ _ => rfl) e
@[simp] theorem Ev.close_returnPort (e : Ev) : e.close.returnPort = e.now.returnPort :=
  Ev.close_keeps State.returnPort (fun _ _ => rfl) State.modArbiter_returnPort (fun _ _ => rfl) e
@[simp] theorem Ev.close_decoders (e : Ev) : e.close.decoders = e.now.decoders :=
  Ev.close_keeps State.decoders (fun _ _ => rfl) State.modArbiter_decoders (fun _ _ => rfl) e
@[simp] theorem Ev.close_recorder (e : Ev) : e.close.recorder = e.now.recorder :=
  Ev.close_keeps State.recorder (fun _ _ => rfl) State.modArbiter_recorder (fun _ _ => rfl) e
@[simp] theorem Ev.close_lastGranted (e : Ev) : e.close.lastGranted = e.now.lastGranted :=
  Ev.close_keeps State.lastGranted (fun _ _ => rfl) State.modArbiter_lastGranted (fun _ _ => rfl) e
@[simp] theorem Ev.close_decoderReady (e : Ev) : e.close.decoderReady = e.now.decoderReady :=
  Ev.close_keeps State.decoderReady (fun _ _ => rfl) State.modArbiter_decoderReady (fun _ _ => rfl) e
@[simp] theorem Ev.close_recorderReady (e : Ev) : e.close.recorderReady = e.now.recorderReady :=
  Ev.close_keeps State.recorderReady (fun _ _ => rfl) State.modArbiter_recorderReady (fun _ _ => rfl) e
@[simp] theorem Ev.close_returnReady (e : Ev) : e.close.returnReady = e.now.returnReady :=
  Ev.close_keeps State.returnReady (fun _ _ => rfl) State.modArbiter_returnReady (fun _ _ => rfl) e
@[simp] theorem Ev.close_draws (e : Ev) : e.close.draws = e.now.draws :=
  Ev.close_keeps State.draws (fun _ _ => rfl) State.modArbiter_draws (fun _ _ => rfl) e

/-- The lanes at the close of an event: each gate worked out (R49). -/
theorem Ev.close_lane (e : Ev) (i : Fin 6) :
    e.close.lanes[i] = Lane.closeGate e.before.lanes[i] e.now.lanes[i] := by
  have h0 : e.closeGates.closePrompts.now.lanes = e.closeGates.now.lanes :=
    Ev.closePrompts_keeps State.lanes State.modArbiter_lanes e.closeGates
  have h : e.close.lanes = e.closeGates.now.lanes := by
    unfold Ev.close
    dsimp only
    exact h0
  rw [h, Ev.closeGates_get]

/-- The pending list at the close of an event (R203). -/
theorem Ev.close_notices (e : Ev) : ∃ raised, e.close.notices =
    e.now.notices ++ newNotices e.now.notices raised := by
  refine ⟨e.closeGates.closePrompts.raised, ?_⟩
  have h : e.closeGates.closePrompts.now.notices = e.now.notices :=
    Ev.closePrompts_keeps State.notices State.modArbiter_notices e.closeGates
  unfold Ev.close
  simp only [h]

end Sys2Proof.Machine
end

