-- ==== Sys2Proof/Laws/Commands.lean ====
section
/-!
SUPPORT. How a command or an event ends (R197, R199, R200): what the two runners do with a body, and the answer
of the bodies that refuse, that only read, and that change what neither the gates nor the prompts look at.
-/

namespace Sys2Proof.Machine

/-! ### The runners -/

/-- A command presented while port C is ready is answered at its close (R199). -/
theorem command_ready {tag : Word16} {code : Byte} {body : Ev → Reply} {s : State} (h : s.portCReady = true) :
    command tag code body s = .next ((body (Ev.start s)).close tag code) := by
  simp [command, h]

/-- A command presented while port C is not ready is lost (R197). -/
theorem command_unready {tag : Word16} {code : Byte} {body : Ev → Reply} {s : State} (h : s.portCReady = false) :
    command tag code body s = .next s := by
  simp [command, h]

/-- An event runs to its close while the reset line is released. -/
theorem event_released {body : Ev → Ev} {s : State} (h : s.resetHeld = false) :
    event body s = .next (body (Ev.start s)).close := by
  simp [event, h]

/-- No event runs while the reset line is held (R208). -/
theorem event_held {body : Ev → Ev} {s : State} (h : s.resetHeld = true) : event body s = .next s := by
  simp [event, h]

/-! ### The parts of a reply -/

@[simp] theorem Ev.refuse_status (e : Ev) (st : Status) : (e.refuse st).status = st := rfl
@[simp] theorem Ev.refuse_ev (e : Ev) (st : Status) : (e.refuse st).ev = e := rfl
@[simp] theorem Ev.refuse_fields (e : Ev) (st : Status) (s : State) : (e.refuse st).fields s = [] := rfl
@[simp] theorem Ev.ok_status (e : Ev) (fs : State → List Field) : (e.ok fs).status = .ok := rfl
@[simp] theorem Ev.ok_ev (e : Ev) (fs : State → List Field) : (e.ok fs).ev = e := rfl
@[simp] theorem Ev.ok_fields (e : Ev) (fs : State → List Field) (s : State) : (e.ok fs).fields s = fs s := rfl

/-- The answer of a refusal: a result of length 0 (R200). -/
theorem Reply.close_refuse (e : Ev) (st : Status) (tag : Word16) (code : Byte) :
    (e.refuse st).close tag code = e.close.respond tag code st [] := rfl

/-- The answer of an acceptance: the fields as they are at the close (R199, R200). -/
theorem Reply.close_ok (e : Ev) (fs : State → List Field) (tag : Word16) (code : Byte) :
    (e.ok fs).close tag code = e.close.respond tag code .ok (fs e.close) := rfl

/-- A command that refuses at once changes nothing but the return queue. -/
@[simp] theorem Reply.close_start_refuse (s : State) (st : Status) (tag : Word16) (code : Byte) :
    ((Ev.start s).refuse st).close tag code = s.respond tag code st [] := by
  rw [Reply.close_refuse, Ev.close_start]

/-- A command that only reads changes nothing but the return queue. -/
@[simp] theorem Reply.close_start_ok (s : State) (fs : State → List Field) (tag : Word16) (code : Byte) :
    ((Ev.start s).ok fs).close tag code = s.respond tag code .ok (fs s) := by
  rw [Reply.close_ok, Ev.close_start]

/-- A command that changes what neither the gates nor the prompts look at ends in that change. -/
theorem Reply.close_on_ok {s : State} {f : State → State} (fs : State → List Field) (tag : Word16) (code : Byte)
    (hl : (f s).lanes = s.lanes) (ha : (f s).arbiters = s.arbiters) :
    (((Ev.start s).on f).ok fs).close tag code = (f s).respond tag code .ok (fs (f s)) := by
  rw [Reply.close_ok, Ev.close_start_on hl ha]

/-- A refusal after such a change keeps the change. -/
theorem Reply.close_on_refuse {s : State} {f : State → State} (st : Status) (tag : Word16) (code : Byte)
    (hl : (f s).lanes = s.lanes) (ha : (f s).arbiters = s.arbiters) :
    (((Ev.start s).on f).refuse st).close tag code = (f s).respond tag code st [] := by
  rw [Reply.close_refuse, Ev.close_start_on hl ha]

/-! ### One notice -/

/-- The one notice of an event enters the pending list unless it stands there already (R203). -/
theorem newNotices_singleton (held : List Notice) (n : Notice) :
    newNotices held [n] = if n ∈ held then [] else [n] := by
  have hf : newNotices held [n] = allNotices.filter fun m => decide (m = n ∧ n ∉ held) := by
    unfold newNotices
    apply List.filter_congr
    intro m _
    by_cases hm : m = n
    · subst hm; simp
    · simp [hm]
  rw [hf]
  by_cases hn : n ∈ held
  · simp [hn]
  · simp only [hn, not_false_eq_true, and_true, if_false]
    have h1 : (allNotices.filter fun m => decide (m = n)) = List.replicate (allNotices.count n) n := by
      rw [← List.filter_beq]; congr
    rw [h1, List.count_eq_one_of_mem allNotices_nodup (mem_allNotices n)]
    rfl

/-- The close of an event that leaves the lanes and the arbiters alone and raises one notice. -/
theorem Ev.close_of_one_notice {e : Ev} {n : Notice} (hw : e.withdrawn = []) (hr : e.raised = [n])
    (hl : e.now.lanes = e.before.lanes) (ha : e.now.arbiters = e.before.arbiters) :
    e.close = { e.now with notices := if n ∈ e.now.notices then e.now.notices else e.now.notices ++ [n] } := by
  rw [Ev.close_of_quiet hw hl (fun d h => by rw [ha]; exact h), hr, newNotices_singleton]
  split <;> simp

end Sys2Proof.Machine
end

