-- ==== Sys2Proof/Laws/Operands.lean ====
section
/-!
SUPPORT. The operands of a command: which number names which lane, timer, slot, profile, display, kind and
input, and what LOAD SERVICE reads from its components (section 11.7).
-/

namespace Sys2Proof.Machine

/-! ### Numbers -/
theorem laneOf_val {n : Nat} {i : Fin 6} (h : i.val = n) : laneOf n = some i := by
  subst h; simp [laneOf, i.isLt]
theorem laneOf_none {n : Nat} (h : 5 < n) : laneOf n = none := by simp [laneOf]; omega
theorem timerOf_val {n : Nat} {i : Fin 24} (h : i.val = n) : timerOf n = some i := by
  subst h; simp [timerOf, i.isLt]
theorem timerOf_none {n : Nat} (h : 23 < n) : timerOf n = none := by simp [timerOf]; omega
theorem slotOf_val {n : Nat} {i : Fin 16} (h : i.val = n) : slotOf n = some i := by
  subst h; simp [slotOf, i.isLt]
theorem slotOf_none {n : Nat} (h : 15 < n) : slotOf n = none := by simp [slotOf]; omega
theorem profileOf_val {n : Nat} {i : Fin 4} (h : i.val = n) : profileOf n = some i := by
  subst h; simp [profileOf, i.isLt]
theorem profileOf_none {n : Nat} (h : 3 < n) : profileOf n = none := by simp [profileOf]; omega
theorem displayOf_val {n : Nat} {i : Fin 2} (h : i.val = n) : displayOf n = some i := by
  subst h; simp [displayOf, i.isLt]
theorem displayOf_none {n : Nat} (h : 1 < n) : displayOf n = none := by simp [displayOf]; omega
theorem kindOf_val {n : Nat} {i : Fin 8} (h : i.val = n) : kindOf n = some i := by
  subst h; simp [kindOf, i.isLt]
theorem kindOf_none {n : Nat} (h : 7 < n) : kindOf n = none := by simp [kindOf]; omega
theorem inputOf_val {n : Nat} {i : Input} (h : inputCode i = n) : inputOf n = some i := by
  subst h; cases i <;> rfl
theorem inputOf_none {n : Nat} (h : 1 < n) : inputOf n = none := by
  have h0 : n ≠ 0 := by omega
  have h1 : n ≠ 1 := by omega
  simp [inputOf, h0, h1]

theorem byte_ext {b c : Byte} (h : b.toNat = c.toNat) : b = c := BitVec.eq_of_toNat_eq h

theorem word16_ext {b c : Word16} (h : b.toNat = c.toNat) : b = c := BitVec.eq_of_toNat_eq h

/-! ### Every member of the lists of numbers -/
theorem mem_allLanes (i : Fin 6) : i ∈ allLanes := by revert i; decide
theorem mem_allSlots (k : Fin 16) : k ∈ allSlots := by revert k; decide
theorem mem_allTimers (t : Fin 24) : t ∈ allTimers := by revert t; decide
theorem mem_allProfiles (p : Fin 4) : p ∈ allProfiles := by revert p; decide
theorem mem_allDisplays (d : Fin 2) : d ∈ allDisplays := by revert d; decide
theorem mem_allKinds (k : Fin 8) : k ∈ allKinds := by revert k; decide
theorem mem_levelKinds {k : Fin 8} : k ∈ levelKinds ↔ k.val ≤ 5 := by revert k; decide
theorem mem_viewingLanes {i : Fin 6} : i ∈ viewingLanes ↔ i.val < 2 := by revert i; decide

/-! ### The service table -/

/-- A service number names a record exactly when the table holds one of that number (R19). -/
theorem service?_isSome (s : State) (n : Nat) :
    (s.service? n).isSome = true ↔ ∃ r ∈ s.services, r.number = n := by
  simp [State.service?]

theorem service?_isNone (s : State) (n : Nat) :
    (s.service? n).isNone = true ↔ ¬∃ r ∈ s.services, r.number = n := by
  simp [State.service?]

/-- The record that a number names has that number. -/
theorem service?_number {s : State} {n : Nat} {r : Service} (h : s.service? n = some r) : r.number = n := by
  have := List.find?_some h
  simpa using this

/-- A service is in use exactly while a lane that is not IDLE carries it (R19). -/
theorem serviceInUse_iff (s : State) (n : Nat) :
    s.serviceInUse n = true ↔ ∃ i : Fin 6, (s.lanes[i]).state ≠ .idle ∧ (s.lanes[i]).service = some n := by
  simp [State.serviceInUse, mem_allLanes]

/-! ### Components -/

/-- Type codes 0, 1 and 2 are VIDEO, AUDIO and DATA (section 11.8). -/
theorem componentTypeOf_eq (b : Byte) (h : b.toNat ≤ 2) :
    componentTypeOf b = some (if b = 0 then .video else if b = 1 then .audio else .data) := by
  have : b = 0 ∨ b = 1 ∨ b = 2 := by
    have h3 : b.toNat = 0 ∨ b.toNat = 1 ∨ b.toNat = 2 := by omega
    rcases h3 with h | h | h
    · exact .inl (byte_ext h)
    · exact .inr (.inl (byte_ext h))
    · exact .inr (.inr (byte_ext h))
  rcases this with rfl | rfl | rfl <;> rfl

theorem componentTypeOf_none (b : Byte) (h : ¬ b.toNat ≤ 2) : componentTypeOf b = none := by
  have h0 : b ≠ 0#8 := by rintro rfl; simp at h
  have h1 : b ≠ 1#8 := by rintro rfl; simp at h
  have h2 : b ≠ 2#8 := by rintro rfl; simp at h
  simp [componentTypeOf, h0, h1, h2]

/-- A component of LOAD SERVICE is read when its stream is at most 8190 and its type code at most 2 (R20). -/
theorem componentOf_isSome (c : Word16 × Byte) :
    (componentOf c).isSome = true ↔ c.1.toNat ≤ 8190 ∧ c.2.toNat ≤ 2 := by
  unfold componentOf
  by_cases h1 : c.1.toNat ≤ 8190
  · by_cases h2 : c.2.toNat ≤ 2
    · simp [h1, h2, componentTypeOf_eq]
    · simp [h1, h2, componentTypeOf_none]
  · simp [h1]

/-- In-range components are all read, in their order. -/
theorem filterMap_componentOf (cs : List (Word16 × Byte)) (h : ∀ k ∈ cs, k.1.toNat ≤ 8190 ∧ k.2.toNat ≤ 2) :
    cs.filterMap componentOf = cs.map fun k =>
      (⟨k.1.toNat, if k.2 = 0 then .video else if k.2 = 1 then .audio else .data⟩ : Component) := by
  induction cs with
  | nil => rfl
  | cons c cs ih =>
    have hc := h c (by simp)
    simp only [List.filterMap_cons, List.map_cons]
    rw [ih (fun k hk => h k (by simp [hk]))]
    simp [componentOf, hc.1, componentTypeOf_eq _ hc.2]

/-- The zone offsets of R128. -/
theorem isZone_iff (m : Int) : isZone m = true ↔ -720 ≤ m ∧ m ≤ 840 ∧ (15 : Int) ∣ m := by
  simp only [isZone, decide_eq_true_eq, Int.dvd_iff_emod_eq_zero]

end Sys2Proof.Machine
end

