-- ==== Sys2Proof/Laws/Queue.lean ====
section
/-!
SUPPORT. No command and no event writes the queue of waiting commands: `exec` acts on everything but the queue
(R199), and one response is the only packet that a command puts into the return queue (R199, R202).
-/

namespace Sys2Proof.Machine

/-- What no body of a command writes: the queue, the reset line, the pending list, the return queue and the
ports. -/
def State.ports (s : State) :=
  (s.pending, s.resetHeld, s.notices, s.returnQueue, s.returnCount, s.returnPort, s.decoders, s.recorder,
    s.lastGranted, s.decoderReady, s.recorderReady, s.returnReady)

/-- What equality of `ports` says, field by field. -/
theorem State.ports_eq {s t : State} (h : s.ports = t.ports) :
    s.pending = t.pending ∧ s.resetHeld = t.resetHeld ∧ s.notices = t.notices ∧ s.returnQueue = t.returnQueue ∧
    s.returnCount = t.returnCount ∧ s.returnPort = t.returnPort ∧ s.decoders = t.decoders ∧
    s.recorder = t.recorder ∧ s.lastGranted = t.lastGranted ∧ s.decoderReady = t.decoderReady ∧
    s.recorderReady = t.recorderReady ∧ s.returnReady = t.returnReady := by
  simpa [State.ports] using h

/-- An operation of the blocks writes none of it. -/
theorem State.ports_of_outside {s t : State} (h : s.outside = t.outside) : s.ports = t.ports := by
  have := State.outside_eq h
  simp [State.ports, this]

/-! ### The bodies of the commands -/

theorem Ev.setUnit_ports (e : Ev) (a : Word32) : (e.setUnit a).ev.now.ports = e.now.ports := by
  unfold Ev.setUnit; split <;> rfl

theorem Ev.setZone_ports (e : Ev) (m : Int) : (e.setZone m).ev.now.ports = e.now.ports := by
  unfold Ev.setZone; split <;> rfl

theorem Ev.declareInput_ports (e : Ev) (i p m : Nat) : (e.declareInput i p m).ev.now.ports = e.now.ports := by
  unfold Ev.declareInput
  split
  · rfl
  · split
    · rfl
    · generalize (if p = 1 then some m else none) = value
      dsimp only
      split
      · rfl
      · exact State.ports_of_outside (Ev.keepingRetaken_outside _ fun e => Ev.redeclare_outside e _ _)

theorem Ev.loadService_ports (e : Ev) (a b : Nat) (cs : List (Word16 × Byte)) (c d f : Nat) :
    (e.loadService a b cs c d f).ev.now.ports = e.now.ports := by
  unfold Ev.loadService; split_ifs <;> rfl

theorem Ev.dropService_ports (e : Ev) (n : Nat) : (e.dropService n).ev.now.ports = e.now.ports := by
  unfold Ev.dropService; split_ifs <;> rfl

theorem Ev.addRoute_ports (e : Ev) (i n k : Nat) : (e.addRoute i n k).ev.now.ports = e.now.ports := by
  unfold Ev.addRoute
  repeat' split
  all_goals rfl

theorem Ev.dropRoute_ports (e : Ev) (i n : Nat) : (e.dropRoute i n).ev.now.ports = e.now.ports := by
  unfold Ev.dropRoute
  repeat' split
  all_goals rfl

theorem Ev.loadProfile_ports (e : Ev) (a b c d f g h k : Nat) :
    (e.loadProfile a b c d f g h k).ev.now.ports = e.now.ports := by
  unfold Ev.loadProfile
  repeat' split
  all_goals first | rfl | exact State.ports_of_outside (by simp [Ev.on])

theorem Ev.setTimer_ports (e : Ev) (a b c d f g h k l m : Nat) :
    (e.setTimer a b c d f g h k l m).ev.now.ports = e.now.ports := by
  unfold Ev.setTimer
  repeat' split
  all_goals rfl

theorem Ev.clearTimer_ports (e : Ev) (n : Nat) : (e.clearTimer n).ev.now.ports = e.now.ports := by
  unfold Ev.clearTimer
  repeat' split
  all_goals rfl

theorem Ev.setLaneOptions_ports (e : Ev) (a b c d f : Nat) :
    (e.setLaneOptions a b c d f).ev.now.ports = e.now.ports := by
  unfold Ev.setLaneOptions
  repeat' split
  all_goals first | rfl | skip
  rw [Ev.ok_ev]
  have h : ∀ (s : State) (i : Fin 6), (s.lockAtOptions i).outside = s.outside := by
    intro s i; unfold State.lockAtOptions; split <;> simp
  exact State.ports_of_outside (by simp [Ev.on, h])

theorem Ev.setKeyDepth_ports (e : Ev) (n : Nat) : (e.setKeyDepth n).ev.now.ports = e.now.ports := rfl

theorem Ev.tune_ports (e : Ev) (a b c : Nat) : (e.tune a b c).ev.now.ports = e.now.ports := by
  unfold Ev.tune
  repeat' split
  all_goals first | rfl | exact State.ports_of_outside (by simp)

theorem Ev.untune_ports (e : Ev) (a : Nat) : (e.untune a).ev.now.ports = e.now.ports := by
  unfold Ev.untune
  repeat' split
  all_goals first | rfl | exact State.ports_of_outside (by simp)

theorem Ev.laneControl_ports (e : Ev) (a b c : Nat) : (e.laneControl a b c).ev.now.ports = e.now.ports := by
  unfold Ev.laneControl
  repeat' split
  all_goals rfl

theorem Ev.survey_ports (e : Ev) (a : Nat) (ns : List Nat) : (e.survey a ns).ev.now.ports = e.now.ports := by
  unfold Ev.survey
  repeat' split
  all_goals first | rfl | exact State.ports_of_outside (by simp)

theorem Ev.clearKeys_ports (e : Ev) (a : Nat) : (e.clearKeys a).ev.now.ports = e.now.ports := by
  unfold Ev.clearKeys
  repeat' split
  all_goals rfl

theorem Ev.completePurchase_ports (e : Ev) (p : Fin 4) (g : GuideEntry) :
    (e.completePurchase p g).ev.now.ports = e.now.ports := by
  have hb : ∀ s : State, (s.buy p g).outside = s.outside := fun _ => rfl
  unfold Ev.completePurchase
  dsimp only
  split
  all_goals exact State.ports_of_outside (by simp [Ev.on, hb])

theorem Ev.purchaseWithPin_ports (e : Ev) (p : Fin 4) (own : Bool) (c d : Nat) :
    (e.purchaseWithPin p own c d).ev.now.ports = e.now.ports := by
  unfold Ev.purchaseWithPin
  dsimp only
  split
  · exact State.ports_of_outside (by simp)
  · rw [Ev.completePurchase_ports]; exact State.ports_of_outside (by simp)

theorem Ev.purchase_ports (e : Ev) (a b c d : Nat) : (e.purchase a b c d).ev.now.ports = e.now.ports := by
  unfold Ev.purchase
  split
  · rfl
  · dsimp only
    split_ifs
    · rfl
    · rfl
    · rfl
    · exact Ev.purchaseWithPin_ports _ _ _ _ _
    · exact State.ports_of_outside (by simp)

theorem Ev.cancel_ports (e : Ev) (a : Nat) : (e.cancel a).ev.now.ports = e.now.ports := by
  have hc : ∀ (s : State) r, (s.cancelPurchase r).outside = s.outside := fun _ _ => rfl
  unfold Ev.cancel
  split
  · rfl
  · split
    · rfl
    · split
      · rfl
      · split
        · rfl
        · exact State.ports_of_outside (by simp [Ev.on, hc])

theorem Ev.unlock_ports (e : Ev) (a b c d : Nat) : (e.unlock a b c d).ev.now.ports = e.now.ports := by
  have h1 : ∀ (e : Ev) t, (e.unlockRating t).ev.now.outside = e.now.outside := by
    intro e t; unfold Ev.unlockRating
    repeat' split
    all_goals first | rfl | simp [Ev.on]
  have h2 : ∀ (e : Ev) t m, (e.unlockPeriod t m).ev.now.outside = e.now.outside := by
    intro e t m; unfold Ev.unlockPeriod
    repeat' split
    all_goals first | rfl | simp [Ev.on]
  have h3 : ∀ (e : Ev) t m, (e.unlockBudget t m).ev.now.outside = e.now.outside := by
    intro e t m; unfold Ev.unlockBudget
    repeat' split
    all_goals first | rfl | simp [Ev.on]
  unfold Ev.unlock
  dsimp only
  repeat' split
  all_goals first | rfl | exact State.ports_of_outside (by simp [h1, h2, h3])

theorem Ev.pollPrompt_ports (e : Ev) (a : Nat) : (e.pollPrompt a).ev.now.ports = e.now.ports := by
  unfold Ev.pollPrompt
  repeat' split
  all_goals rfl

theorem Ev.endPrompt_ports (e : Ev) (a b : Nat) : (e.endPrompt a b).ev.now.ports = e.now.ports := by
  unfold Ev.endPrompt
  repeat' split
  all_goals rfl

theorem Ev.maskPrompt_ports (e : Ev) (a : Nat) (b : Byte) : (e.maskPrompt a b).ev.now.ports = e.now.ports := by
  unfold Ev.maskPrompt
  repeat' split
  all_goals rfl

theorem Ev.orderPrompt_ports (e : Ev) (a b c : Nat) : (e.orderPrompt a b c).ev.now.ports = e.now.ports := by
  unfold Ev.orderPrompt
  repeat' split
  all_goals rfl

theorem Ev.readLane_ports (e : Ev) (n : Nat) : (e.readLane n).ev.now.ports = e.now.ports := by
  unfold Ev.readLane; split <;> rfl

theorem Ev.readService_ports (e : Ev) (n : Nat) : (e.readService n).ev.now.ports = e.now.ports := by
  unfold Ev.readService; split <;> rfl

theorem Ev.readSlot_ports (e : Ev) (n : Nat) : (e.readSlot n).ev.now.ports = e.now.ports := by
  unfold Ev.readSlot; split <;> rfl

theorem Ev.readGrant_ports (e : Ev) (n : Nat) : (e.readGrant n).ev.now.ports = e.now.ports := by
  unfold Ev.readGrant; split <;> rfl

theorem Ev.readLog_ports (e : Ev) (n : Nat) : (e.readLog n).ev.now.ports = e.now.ports := by
  unfold Ev.readLog; split <;> rfl

theorem Ev.readGuide_ports (e : Ev) (n m : Nat) : (e.readGuide n m).ev.now.ports = e.now.ports := by
  unfold Ev.readGuide; split <;> rfl

theorem Ev.readSurvey_ports (e : Ev) (n m : Nat) : (e.readSurvey n m).ev.now.ports = e.now.ports := by
  unfold Ev.readSurvey
  repeat' split
  all_goals rfl

theorem Ev.readClock_ports (e : Ev) : e.readClock.ev.now.ports = e.now.ports := rfl

theorem Ev.readProfile_ports (e : Ev) (n : Nat) : (e.readProfile n).ev.now.ports = e.now.ports := by
  unfold Ev.readProfile; split <;> rfl

theorem Ev.readTimer_ports (e : Ev) (n : Nat) : (e.readTimer n).ev.now.ports = e.now.ports := by
  unfold Ev.readTimer; split <;> rfl

/-! ### The answer of a command -/

/-- The queue after a command's answer. -/
theorem Reply.close_pending (r : Reply) (tag : Word16) (code : Byte) :
    (r.close tag code).pending = r.ev.now.pending := by
  simp only [Reply.close, State.respond, State.enqueue, Ev.close_pending]

/-- The return queue after a command's answer. -/
theorem Reply.close_returnQueue (r : Reply) (tag : Word16) (code : Byte) :
    (r.close tag code).returnQueue = r.ev.now.returnQueue ++
      [⟨r.ev.now.returnCount, .response tag code r.status (encode r.ev.now.draws (r.fields r.ev.close))⟩] := by
  simp only [Reply.close, State.respond, State.enqueue, Ev.close_returnQueue, Ev.close_returnCount, Ev.close_draws]

/-- The return count after a command's answer. -/
theorem Reply.close_returnCount (r : Reply) (tag : Word16) (code : Byte) :
    (r.close tag code).returnCount = r.ev.now.returnCount + 1 := by
  simp only [Reply.close, State.respond, State.enqueue, Ev.close_returnCount]

/-- A command leaves the waiting commands as they are. -/
theorem command_pending {tag : Word16} {code : Byte} {body : Ev → Reply} {s t : State}
    (hb : ∀ e, (body e).ev.now.ports = e.now.ports) (h : command tag code body s = .next t) :
    t.pending = s.pending := by
  by_cases hr : s.portCReady = true
  · rw [command_ready hr] at h
    rw [← Host.Outcome.next.inj h, Reply.close_pending, (State.ports_eq (hb (Ev.start s))).1, Ev.start_now]
  · rw [command_unready (by simpa using hr)] at h
    rw [← Host.Outcome.next.inj h]

/-- An event leaves the waiting commands as they are. -/
theorem event_pending {body : Ev → Ev} {s t : State}
    (hb : ∀ e, (body e).now.outside = e.now.outside) (h : event body s = .next t) : t.pending = s.pending := by
  by_cases hr : s.resetHeld = true
  · rw [event_held hr] at h
    rw [← Host.Outcome.next.inj h]
  · rw [event_released (by simpa using hr)] at h
    rw [← Host.Outcome.next.inj h, Ev.close_pending, (State.outside_eq (hb (Ev.start s))).1, Ev.start_now]

/-- A command taken is answered once (R199). -/
theorem command_answers {tag : Word16} {code : Byte} {body : Ev → Reply} {s : State}
    (hb : ∀ e, (body e).ev.now.ports = e.now.ports) (hr : s.portCReady = true) :
    ∃ (t : State) (result : List Byte), command tag code body s = .next t ∧
      t.returnQueue = s.returnQueue ++ [⟨s.returnCount, .response tag code (body (Ev.start s)).status result⟩] ∧
      t.returnCount = s.returnCount + 1 := by
  obtain ⟨-, -, -, hq, hc, -⟩ := State.ports_eq (hb (Ev.start s))
  refine ⟨(body (Ev.start s)).close tag code,
    encode (body (Ev.start s)).ev.now.draws ((body (Ev.start s)).fields (body (Ev.start s)).ev.close),
    command_ready hr, ?_, ?_⟩
  · rw [Reply.close_returnQueue, hq, hc, Ev.start_now]
  · rw [Reply.close_returnCount, hc, Ev.start_now]
/-! ### The outputs -/

theorem State.decoderTake_pending (s : State) (d : Fin 2) : (s.decoderTake d).pending = s.pending := by
  unfold State.decoderTake
  dsimp only
  repeat' split
  all_goals rfl

theorem State.recorderTake_pending (s : State) : s.recorderTake.pending = s.pending := by
  unfold State.recorderTake
  dsimp only
  repeat' split
  all_goals rfl

theorem State.returnTake_pending (s : State) : s.returnTake.pending = s.pending := by
  unfold State.returnTake
  repeat' split
  all_goals rfl

theorem State.moveNotice_pending (s : State) : s.moveNotice.pending = s.pending := by
  unfold State.moveNotice
  split
  · rfl
  · split
    · unfold State.noticeMoved
      split <;> rfl
    · rfl

/-! ### Every step -/

/-- No command and no event writes the queue. -/
theorem exec_pending {i : Instr} {s t : State} (h : exec i s = .next t) : t.pending = s.pending := by
  cases i
  case setUnit => exact command_pending (fun e => e.setUnit_ports _) (by simpa only [exec, execSetUnit] using h)
  case setZone => exact command_pending (fun e => e.setZone_ports _) (by simpa only [exec, execSetZone] using h)
  case declareInput => exact command_pending (fun e => e.declareInput_ports _ _ _) (by simpa only [exec, execDeclareInput] using h)
  case loadService => exact command_pending (fun e => e.loadService_ports _ _ _ _ _ _) (by simpa only [exec, execLoadService] using h)
  case dropService => exact command_pending (fun e => e.dropService_ports _) (by simpa only [exec, execDropService] using h)
  case addRoute => exact command_pending (fun e => e.addRoute_ports _ _ _) (by simpa only [exec, execAddRoute] using h)
  case dropRoute => exact command_pending (fun e => e.dropRoute_ports _ _) (by simpa only [exec, execDropRoute] using h)
  case loadProfile => exact command_pending (fun e => e.loadProfile_ports _ _ _ _ _ _ _ _) (by simpa only [exec, execLoadProfile] using h)
  case setTimer => exact command_pending (fun e => e.setTimer_ports _ _ _ _ _ _ _ _ _ _) (by simpa only [exec, execSetTimer] using h)
  case clearTimer => exact command_pending (fun e => e.clearTimer_ports _) (by simpa only [exec, execClearTimer] using h)
  case setLaneOptions => exact command_pending (fun e => e.setLaneOptions_ports _ _ _ _ _) (by simpa only [exec, execSetLaneOptions] using h)
  case setKeyDepth => exact command_pending (fun e => e.setKeyDepth_ports _) (by simpa only [exec, execSetKeyDepth] using h)
  case tune => exact command_pending (fun e => e.tune_ports _ _ _) (by simpa only [exec, execTune] using h)
  case untune => exact command_pending (fun e => e.untune_ports _) (by simpa only [exec, execUntune] using h)
  case laneControl => exact command_pending (fun e => e.laneControl_ports _ _ _) (by simpa only [exec, execLaneControl] using h)
  case survey => exact command_pending (fun e => e.survey_ports _ _) (by simpa only [exec, execSurvey] using h)
  case purchase => exact command_pending (fun e => e.purchase_ports _ _ _ _) (by simpa only [exec, execPurchase] using h)
  case cancel => exact command_pending (fun e => e.cancel_ports _) (by simpa only [exec, execCancel] using h)
  case unlock => exact command_pending (fun e => e.unlock_ports _ _ _ _) (by simpa only [exec, execUnlock] using h)
  case pollPrompt => exact command_pending (fun e => e.pollPrompt_ports _) (by simpa only [exec, execPollPrompt] using h)
  case endPrompt => exact command_pending (fun e => e.endPrompt_ports _ _) (by simpa only [exec, execEndPrompt] using h)
  case maskPrompt => exact command_pending (fun e => e.maskPrompt_ports _ _) (by simpa only [exec, execMaskPrompt] using h)
  case orderPrompt => exact command_pending (fun e => e.orderPrompt_ports _ _ _) (by simpa only [exec, execOrderPrompt] using h)
  case clearKeys => exact command_pending (fun e => e.clearKeys_ports _) (by simpa only [exec, execClearKeys] using h)
  case readLane => exact command_pending (fun e => e.readLane_ports _) (by simpa only [exec, execReadLane] using h)
  case readService => exact command_pending (fun e => e.readService_ports _) (by simpa only [exec, execReadService] using h)
  case readSlot => exact command_pending (fun e => e.readSlot_ports _) (by simpa only [exec, execReadSlot] using h)
  case readGrant => exact command_pending (fun e => e.readGrant_ports _) (by simpa only [exec, execReadGrant] using h)
  case readLog => exact command_pending (fun e => e.readLog_ports _) (by simpa only [exec, execReadLog] using h)
  case readGuide => exact command_pending (fun e => e.readGuide_ports _ _) (by simpa only [exec, execReadGuide] using h)
  case readSurvey => exact command_pending (fun e => e.readSurvey_ports _ _) (by simpa only [exec, execReadSurvey] using h)
  case readClock => exact command_pending (fun e => e.readClock_ports) (by simpa only [exec, execReadClock] using h)
  case readProfile => exact command_pending (fun e => e.readProfile_ports _) (by simpa only [exec, execReadProfile] using h)
  case readTimer => exact command_pending (fun e => e.readTimer_ports _) (by simpa only [exec, execReadTimer] using h)
  case cablePacket =>
    simp only [exec, execCablePacket] at h
    exact event_pending (fun e => by simp) h
  case tickEvent =>
    simp only [exec, execTickEvent] at h
    exact event_pending (fun e => e.keepingRetaken_outside Ev.tick_outside) h
  case stalled =>
    simp only [exec, execStalled] at h
    exact event_pending (fun e => by simp) h
  case silenceLimit =>
    simp only [exec, execSilenceLimit] at h
    exact event_pending (fun e => by simp) h
  case surveyTurnEnd =>
    simp only [exec, execSurveyTurnEnd] at h
    exact event_pending (fun e => e.keepingRetaken_outside fun e => e.turnCheck_outside _) h
  case secondEvent =>
    simp only [exec, execSecondEvent] at h
    exact event_pending (fun e => e.keepingRetaken_outside Ev.secondRow_outside) h
  case autoStopped =>
    simp only [exec, execAutoStopped] at h
    exact event_pending (fun e => by split <;> simp) h
  case lockoutEnded =>
    simp only [exec, execLockoutEnded] at h
    exact event_pending (fun e => by split <;> simp) h
  case periodEnded =>
    simp only [exec, execPeriodEnded] at h
    exact event_pending (fun e => by split <;> simp [Ev.on]) h
  case pendingStepDrop =>
    simp only [exec, execPendingStepDrop] at h
    exact event_pending (fun e => by simp only [Ev.on]; split <;> simp) h
  case expired =>
    simp only [exec, execExpired] at h
    exact event_pending (fun e => by simp) h
  case timerFire =>
    simp only [exec, execTimerFire] at h
    exact event_pending (fun e => by split <;> simp) h
  case restart tag =>
    simp only [exec, execRestart] at h
    split at h
    · rw [← Host.Outcome.next.inj h]; simp [State.respond, State.enqueue, State.restarted]
    · rw [← Host.Outcome.next.inj h]
  case unknownCommand p =>
    simp only [exec, execUnknownCommand] at h
    split at h
    · exact absurd h (by simp)
    · exact command_pending (fun e => rfl) h
  case portCPacketDrop p =>
    simp only [exec, execPortCPacketDrop] at h
    split at h
    · rw [← Host.Outcome.next.inj h]
    · exact absurd h (by simp)
  case decoderOutputTake d ready =>
    simp only [exec, execDecoderOutputTake] at h
    split at h
    · rw [← Host.Outcome.next.inj h]
    · rw [← Host.Outcome.next.inj h]
      split
      · exact State.decoderTake_pending _ _
      · rfl
  case recorderGrant ready =>
    simp only [exec, execRecorderGrant] at h
    split at h
    · rw [← Host.Outcome.next.inj h]
    · rw [← Host.Outcome.next.inj h]
      split
      · exact State.recorderTake_pending _
      · rfl
  case returnPortTake ready =>
    simp only [exec, execReturnPortTake] at h
    split at h
    · rw [← Host.Outcome.next.inj h]
    · rw [← Host.Outcome.next.inj h]
      split
      · exact State.returnTake_pending _
      · rfl
  case sendComplete port =>
    simp only [exec, execSendComplete] at h
    rw [← Host.Outcome.next.inj h]
    cases port <;> rfl
  case noticeMove =>
    simp only [exec, execNoticeMove] at h
    split at h
    · rw [← Host.Outcome.next.inj h]
    · rw [← Host.Outcome.next.inj h]
      exact State.moveNotice_pending s
  case powerOn =>
    simp only [exec, execPowerOn] at h
    rw [← Host.Outcome.next.inj h]
  case resetRelease =>
    simp only [exec, execResetRelease] at h
    rw [← Host.Outcome.next.inj h]

end Sys2Proof.Machine
end

