-- ==== Sys2Proof/Tests/Slice0.lean ====
section
/-!
SUPPORT. Tests: ill-formed terms that `wellFormed` refuses, packets and commands with the outcome that the
manual's rules and worked sequences give, and for each statement with hypotheses a witness that states and
operands meet them. The numbers come from spec/, never from a run of the model.
-/

namespace Sys2Proof.Tests

open Sys2Proof.Machine

set_option Elab.async false

/-! ### Helpers -/

/-- What is seen of the state after a command or event. -/
def see {α : Type} (i : Instr) (s : State) (f : State → α) : Option α :=
  match exec i s with
  | .next t => some (f t)
  | .fault _ => none
  | .refused _ => none

/-- The status and the result of the last response. -/
def response (t : State) : Option (Status × List Byte) :=
  match t.returnQueue.getLast? with
  | some ⟨_, .response _ _ status result⟩ => some (status, result)
  | _ => none

/-- The answer to a command. -/
def answer (i : Instr) (s : State) : Option (Status × List Byte) := (see i s response).getD none

/-- A CLEAR packet of a stream: sequence count, start flag, extension flag and what follows the header. -/
def clearPacket (stream count : Nat) (start extension : Bool) (rest : List Byte) : Packet :=
  packetOfBytes ([0x47#8,
    BitVec.ofNat 8 ((if start then 64 else 0) + 32 + (if extension then 16 else 0) + count),
    BitVec.ofNat 8 (stream / 256), BitVec.ofNat 8 (stream % 256)] ++ rest)

/-- Service 210 of the worked sequences: multiplex 7, streams 310 and 311, key stream 301. -/
def service210 : Service := ⟨210, 7, [⟨310, .video⟩, ⟨311, .audio⟩], some 301, 4100⟩

/-- Service 520: clear, multiplex 12, streams 600 and 601. -/
def service520 : Service := ⟨520, 12, [⟨600, .video⟩, ⟨601, .audio⟩], none, 0⟩

/-- Input A declares 7 and input B 12; both services are loaded. -/
def site : State :=
  { State.reset with
    inputA := ⟨.inSync, some 7⟩, inputB := ⟨.inSync, some 12⟩, services := [service210, service520] }

/-- A VALID clock at a network second. -/
def clockAt (n : Nat) : Clock := { Clock.powerOn with valid := true, now := n }

/-- Lane `i` of `site` as TUNE and its acquisition leave it on service 520, with its entries. -/
def carrying (i : Fin 6) (state : LaneState) (f : Lane → Lane) : State :=
  { site.modLane i fun l => f { l with
      state := state, service := some 520, input := some .b, health := 8,
      gate := if state = .passing then .pass else .hold } with
    map := [newEntry .b 600 (.component [i] none), newEntry .b 601 (.component [i] none)] }

/-- A slot with a key, a candidate and counts. -/
def usedSlot : KeySlot :=
  ⟨.a, 301, [0], some .even, ⟨some ⟨10, 4100⟩, none⟩, ⟨none, some ⟨11, 4100, 2⟩⟩, 1, 1, 1⟩

/-! ### WellFormed -/

theorem test_illFormed_loadService :
    (Instr.loadService 1 210 7 (List.replicate 57 (310, 0)) 0 0 0).wellFormed = false := by decide

theorem test_illFormed_survey : (Instr.survey 1 3 (List.replicate 90 210)).wellFormed = false := by decide

theorem test_illFormed_timerFire : (Instr.timerFire 0 71582789#32).wellFormed = false := by decide

/-- READ CLOCK with tag 0x1234 as section 11.7 and 11.9 write it. -/
def readClockPacket : Packet := packetOfBytes [0x47, 0x60, 0x1F, 0xF4, 0x47, 0x12, 0x34, 0x00]

/-- A packet of stream 8180 whose code, 0x50, is no command. -/
def unknownPacket : Packet := packetOfBytes [0x47, 0x60, 0x1F, 0xF4, 0x50, 0x12, 0x34, 0x00]

/-- A packet with a bad sync value. -/
def badSyncPacket : Packet := packetOfBytes [0x46, 0x60, 0x1F, 0xF4, 0x47, 0x12, 0x34, 0x00]

/-- A packet of stream 8180 with three payload bytes: a length of 180 leaves three bytes after the extension. -/
def shortPacket : Packet := packetOfBytes [0x47, 0x70, 0x1F, 0xF4, 180]

theorem test_illFormed_unknownCommand :
    (Instr.unknownCommand readClockPacket).wellFormed = false ∧
      (Instr.unknownCommand badSyncPacket).wellFormed = false := by decide +kernel

theorem test_illFormed_portCPacketDrop : (Instr.portCPacketDrop readClockPacket).wellFormed = false := by
  decide +kernel

/-! ### Packets as commands (sections 11.7 and 11.9) -/

theorem test_commandOf_readClock : commandOf readClockPacket = .readClock 0x1234 := by decide +kernel

theorem test_commandOf_tune :
    commandOf (packetOfBytes [0x47, 0x60, 0x1F, 0xF4, 0x20, 0, 9, 4, 0, 0, 210, 1]) = .tune 9 0 210 1 := by
  decide +kernel

theorem test_commandOf_unknown : commandOf unknownPacket = .unknownCommand unknownPacket := by decide +kernel

theorem test_commandOf_dropped : commandOf badSyncPacket = .portCPacketDrop badSyncPacket := by decide +kernel

theorem test_unknownCommand : answer (.unknownCommand unknownPacket) site = some (.unknown, []) := by
  decide +kernel

theorem test_portCPacketDrop :
    see (.portCPacketDrop badSyncPacket) site id = some site := by decide +kernel

/-- No row of the table has bits. -/
theorem test_decodeTableWord : decodeTableWord 8 0x47 = none := rfl

/-! ### Setting the part up -/

theorem test_setUnit_once :
    answer (.setUnit 1 0x00A1B2C3) site = some (.ok, [0x00, 0xA1, 0xB2, 0xC3]) ∧
      answer (.setUnit 1 0x00A1B2C3) { site with unitAddress := some 0x00A1B2C3 } = some (.refused, []) := by
  decide +kernel

theorem test_setZone :
    answer (.setZone 1 (-300)) site = some (.ok, [0xFE, 0xD4]) ∧
      answer (.setZone 1 7) site = some (.range, []) := by decide +kernel

/-- Loss in chapter 2: DECLARE INPUT none loses the lane on it, and its entries are freed. -/
theorem test_declareInput_loses :
    see (.declareInput 1 1 0 0) (carrying 0 .passing id)
      (fun t => (t.lanes[(0 : Fin 6)].state, t.lanes[(0 : Fin 6)].lastChange, t.map)) =
      some (.lost, some .lost, []) := by decide +kernel

theorem test_loadService :
    see (.loadService 1 330 9 [(900, 2)] 0 0 5) site (fun t => t.services.getLast?) =
      some (some ⟨330, 9, [⟨900, .data⟩], none, 5⟩) := by decide +kernel

theorem test_dropService_inUse : answer (.dropService 1 520) (carrying 3 .lost id) = some (.inUse, []) := by
  decide +kernel

theorem test_addRoute :
    see (.addRoute 1 1 4010 4) site (fun t => t.map) =
      some [newEntry .b 4010 (.message .guide .idle)] := by decide +kernel

theorem test_dropRoute :
    answer (.dropRoute 1 1 600) (carrying 0 .passing id) = some (.noSuch, []) := by decide +kernel

theorem test_loadProfile_clearPin :
    see (.loadProfile 1 2 0xFFFF 0 9 1 0 0 90) site (fun t => t.profiles[(2 : Fin 4)]) =
      some { Profile.powerOn with ceiling := 9, unrated := .block, budget := 90 } := by decide +kernel

theorem test_setTimer_any :
    see (.setTimer 1 5 255 21 47 0 0 9 210 0 1) site
      (fun t => (t.timers[(5 : Fin 24)].weekday, t.timers[(5 : Fin 24)].hour, t.timers[(5 : Fin 24)].isSet)) =
      some (none, some 21, true) := by decide +kernel

theorem test_clearTimer_empty : answer (.clearTimer 1 5) site = some (.noSuch, []) := by decide +kernel

theorem test_setLaneOptions_clamps :
    answer (.setLaneOptions 1 3 40 0 0 1) site = some (.ok, [31, 1, 1, 1]) := by decide +kernel

theorem test_setKeyDepth :
    answer (.setKeyDepth 1 14) site = some (.ok, [13]) ∧ answer (.setKeyDepth 1 0) site = some (.ok, [1]) := by
  decide +kernel

/-! ### Lanes and surveys -/

/-- The first row of the tune in chapter 2. -/
theorem test_tune_starts :
    see (.tune 1 0 210 1) site
      (fun t => (t.lanes[(0 : Fin 6)].state, t.lanes[(0 : Fin 6)].step, t.map.map fun en => (en.stream, en.role))) =
      some (.acquiring, some .signal,
        [(301, .message .key .idle), (310, .component [0] (some 0)), (311, .component [0] (some 0))]) := by
  decide +kernel

theorem test_tune_notCarried : answer (.tune 1 0 210 1) { site with inputA := ⟨.inSync, none⟩ } =
    some (.notCarried, []) := by decide +kernel

theorem test_untune :
    see (.untune 1 4) (carrying 4 .passing id) (fun t => (t.lanes[(4 : Fin 6)].state, t.map)) =
      some (.idle, []) := by decide +kernel

/-- Step 7 of the release in chapter 3: the gate releases from HOLD. -/
theorem test_laneControl_releases :
    answer (.laneControl 1 0 2 0)
      (carrying 0 .passing fun l => { l with reasons := { hostHold := true }, gate := .hold }) =
      some (.ok, [2, 0, 0, 0]) := by decide +kernel

/-- The first turn of the survey of four services in chapter 4. -/
theorem test_survey_starts :
    see (.survey 1 3 [210, 330, 415, 520]) site
      (fun t => (t.surveys[(3 : Fin 6)].status, t.surveys[(3 : Fin 6)].position,
        t.surveys[(3 : Fin 6)].records.length, t.lanes[(3 : Fin 6)].state)) =
      some (.running, some 1, 4, .surveying) := by decide +kernel

theorem test_survey_end :
    see (.surveyTurnEnd 3)
      { carrying 3 .surveying (fun l => { l with ticks := 30, reasons := { acquire := true } }) with
        surveys := State.reset.surveys.set 3 ⟨.running, some 1, [SurveyRecord.fresh 520]⟩ }
      (fun t => (t.surveys[(3 : Fin 6)].status, t.lanes[(3 : Fin 6)].state, t.map, t.notices)) =
      some (.complete, .idle, [], [.survey 3]) := by decide +kernel

/-- A survey of 210, then 210 again: the turn that follows takes the slot it gave up, with its halves (R66, R78). -/
theorem test_survey_keepsSlot :
    see (.surveyTurnEnd 3)
      { site.modLane 3 (fun l => { l with
          state := .surveying, service := some 210, input := some .a, ticks := 30,
          reasons := { acquire := true } }) with
        map := [newEntry .a 301 (.message .key .idle), newEntry .a 310 (.component [3] (some 7))]
        slots := site.slots.set 7 (some { usedSlot with users := [3], even := ⟨some ⟨10, 0⟩, none⟩ })
        surveys := State.reset.surveys.set 3 ⟨.running, some 1, [SurveyRecord.fresh 210, SurveyRecord.fresh 210]⟩ }
      (fun t => (t.slots[(7 : Fin 16)]).map fun k => (k.users, k.even, k.odd, k.phase)) =
      some (some ([3], ⟨some ⟨10, 0⟩, none⟩, ⟨none, some ⟨11, 4100, 2⟩⟩, some .even)) := by decide +kernel

/-- Lane 3 measures service 210 through slot 7, with service 211 of multiplex 8 and the same key stream to come, and
lane 0 has lost a service of multiplex 8. -/
def retaking : State :=
  { (site.modLane 3 fun l => { l with state := .surveying, service := some 210, input := some .a }).modLane 0
      (fun l => { l with state := .lost, service := some 530, input := some .a }) with
    services := [service210, ⟨211, 8, [⟨320, .video⟩], some 301, 4100⟩, ⟨530, 8, [⟨700, .video⟩], some 302, 0⟩]
    map := [newEntry .a 301 (.message .key .idle), newEntry .a 310 (.component [3] (some 7))]
    slots := site.slots.set 7 (some { usedSlot with users := [3], even := ⟨some ⟨10, 0⟩, none⟩ })
    surveys := State.reset.surveys.set 3 ⟨.running, some 1, [SurveyRecord.fresh 210, SurveyRecord.fresh 211]⟩ }

/-- After input A changes to multiplex 8, lane 0 is in the state given, and slot 7 serves key stream 301 for the lanes
given and holds its even key. -/
def keepsSlot (s : State) (state : LaneState) (users : List (Fin 6)) : Bool :=
  see (.declareInput 1 0 1 8) s (fun t => decide ((t.lanes[(0 : Fin 6)]).state = state) &&
    (t.slots[(7 : Fin 16)]).any fun k => decide (k.stream = 301 ∧ k.users = users ∧ k.even.key = some ⟨10, 0⟩)) ==
      some true

/-- Every service in the table names key stream 301. -/
def retakingSame : State :=
  { retaking with services := retaking.services.map fun r => { r with keyStream := some 301 } }

/-- Lane 0 uses slot 7 beside lane 3, for service 210. -/
def retakingShared : State :=
  { retaking.modLane 0 (fun l => { l with state := .passing, service := some 210 }) with
    slots := site.slots.set 7 (some { usedSlot with users := [0, 3], even := ⟨some ⟨10, 0⟩, none⟩ }) }

/-- DECLARE INPUT ends the turn of lane 3, and the next turn of lane 3 takes the slot it gave up in the same event,
with its halves, whatever lane 0 does in between: it re-acquires by another slot, or by this one, or it is the last
user of the slot when it is lost (R66, R73, R78). -/
theorem test_declareInput_keepsSlot :
    keepsSlot retaking .acquiring [3] ∧ keepsSlot retakingSame .acquiring [0, 3] ∧ keepsSlot retakingShared .lost [3] :=
  by decide +kernel

/-- Lanes 2 and 5 carry service 520 on input B, which changes; input A has come to declare its multiplex too, and
both re-acquire there in the same command (R37, R38). -/
theorem test_declareInput_movesLanes :
    see (.declareInput 1 1 1 13)
      { (carrying 5 .passing id).modLane 2 (fun l => { l with
          state := .stalled, service := some 520, input := some .b }) with inputA := ⟨.inSync, some 12⟩ }
      (fun t => (t.lanes.toList.map (fun l => (l.state, l.input)), t.map.map fun en => (en.input, en.stream, en.role))) =
      some ([(.idle, none), (.idle, none), (.acquiring, some .a), (.idle, none), (.idle, none), (.acquiring, some .a)],
        [(.a, 600, .component [2, 5] none), (.a, 601, .component [2, 5] none)]) := by decide +kernel

/-- Two good events and an ERROR in the health sequence of chapter 2. -/
theorem test_health :
    let l : Lane := { Lane.powerOn with state := .degraded, ceiling := 4, health := 3, reasons := { degrade := true } }
    (l.goodEvent.1.health, l.goodEvent.1.state, l.goodEvent.2) = (4, .passing, true) ∧
      (l.badEvent.1.health, l.badEvent.1.state, l.badEvent.2) = (2, .degraded, false) := by decide +kernel

/-! ### Packets -/

/-- Packets 3 to 7 and 9 of the continuity sequence in chapter 1. -/
theorem test_continuity :
    let en (last : BitVec 4) (mark : Bool) : MapEntry := ⟨.a, 512, .component [0, 3] none, some last, mark⟩
    let p (k : Nat) : Packet := clearPacket 512 k false false []
    (en 15 false).continuity (p 0) = (.accepted, some 0, false) ∧
      (en 0 false).continuity (p 0) = (.duplicate, some 0, true) ∧
      (en 0 true).continuity (p 0) = (.error, some 0, true) ∧
      (en 0 true).continuity (p 1) = (.accepted, some 1, false) ∧
      (en 1 false).continuity (p 4) = (.error, some 4, false) ∧
      (en 4 false).continuity (clearPacket 512 9 false true [1, 0x80]) = (.accepted, some 9, false) := by
  decide +kernel

/-- Arrival 1 of the assembly sequence in chapter 1: length 700 is expected whole as 703 bytes. -/
theorem test_assembly :
    see (.cablePacket .b false (clearPacket 4010 7 true false [4, 0x02, 0xBC]))
      { site with map := [⟨.b, 4010, .message .guide .idle, some 6, false⟩] }
      (fun t => t.map.map fun en => match en.role with
        | .message _ (.assembling held expected) => (held.length, expected)
        | _ => (0, 0)) = some [(184, 703)] := by decide +kernel

/-- A bad sync value takes the input out of sync (R1). -/
theorem test_badSync :
    see (.cablePacket .a false badSyncPacket) site (fun t => (t.inputA.sync, t.inputB.sync)) =
      some (.outOfSync, .inSync) := by decide +kernel

/-! ### Keys -/

/-- Steps 2, 5, 7, 8, 10 and 12 of the vote at depth 5 in chapter 5. -/
theorem test_vote :
    let k (even : Half) (used : Option Phase) : KeySlot := ⟨.a, 301, [0, 4], used, even, ⟨none, none⟩, 0, 0, 0⟩
    let e (v : Nat) : KeyEntry := ⟨4100, .even, BitVec.ofNat 64 v⟩
    ((k ⟨none, none⟩ none).takeEntry 5 true (e 10)).even = ⟨none, some ⟨10, 4100, 1⟩⟩ ∧
      ((k ⟨none, some ⟨10, 4100, 2⟩⟩ (some .even)).takeEntry 5 true (e 11)).even = ⟨none, some ⟨10, 4100, 1⟩⟩ ∧
      ((k ⟨none, some ⟨10, 4100, 1⟩⟩ (some .even)).takeEntry 5 false (e 10)).refused = 1 ∧
      ((k ⟨none, some ⟨10, 4100, 2⟩⟩ (some .even)).takeEntry 5 true (e 10)).even = ⟨some ⟨10, 4100⟩, none⟩ ∧
      ((k ⟨some ⟨10, 4100⟩, none⟩ (some .even)).takeEntry 5 true (e 12)).rejected = 1 := by decide +kernel

theorem test_clearKeys :
    see (.clearKeys 1 2) (site.setSlot 2 (some usedSlot)) (fun t => t.slots[(2 : Fin 16)]) =
      some (some { usedSlot with phase := none, even := ⟨none, none⟩, odd := ⟨none, none⟩ }) := by decide +kernel

/-! ### Purchases and PINs -/

/-- The guide and the profiles of the purchase sequence in chapter 6, at its second step. -/
def shop : State :=
  { (site.modProfile 0 fun p => { p with pin := some 9090 }).modProfile 1
      (fun p => { p with pin := some 2468, purchaseAllowed := true }) with
    clock := clockAt 800000000,
    guide := { Guide.powerOn with entries := [⟨210, 501, 800003600, 90, 0, 4300, 120⟩] },
    entitlement := { Entitlement.powerOn with ceiling := 500 } }

/-- `shop` after its second step. -/
def shopSold : State :=
  { shop with entitlement :=
      { Entitlement.powerOn with
        ceiling := 500, spent := 120, nextSequence := 2,
        log := [⟨1, 501, 210, 4300, 120, 800000000, 1, .active⟩],
        grants := [⟨4300, .purchase, 800003600, some 800009000, some 1⟩] } }

theorem test_purchase_step2 :
    see (.purchase 1 1 2468 210 501) shop (fun t => t.entitlement) = some shopSold.entitlement := by
  decide +kernel

theorem test_purchase_badPin :
    see (.purchase 1 1 1111 210 501) (shop.modProfile 1 fun p => { p with failures := 2 })
      (fun t => ((t.profiles[(1 : Fin 4)]).failures, (t.profiles[(1 : Fin 4)]).lockout, t.notices)) =
      some (0, 900, [.profile 1]) := by decide +kernel

/-- Step 7: N is before the grant's start. -/
theorem test_cancel_step7 :
    see (.cancel 1 1) { shopSold with clock := clockAt 800002000 }
      (fun t => (t.entitlement.spent, t.entitlement.grants, t.entitlement.log.map fun r => r.state)) =
      some (0, [], [.cancelled]) := by decide +kernel

/-- Step 8 of the master unlock in chapter 9: 500 minutes are clamped to 240. -/
theorem test_unlock_period : answer (.unlock 1 9090 1 3 500) shop = some (.ok, [0x38, 0x40]) := by
  decide +kernel

/-! ### Prompts -/

/-- The arbiter of display 0 before step 9 of chapter 10. -/
def nestedArbiter : Arbiter :=
  let a := ((Arbiter.powerOn.modEntry 6 fun e => { e with state := .inService }).modEntry 0
    fun e => { e with state := .inService }).modEntry 3 fun e => { e with state := .pending }
  { a with stack := [6, 0], autoRotate := true }

/-- Lane 0 on a programme above its profile's ceiling, and display 0 as it stands before step 9. -/
def nested : State :=
  (shop.modArbiter 0 fun _ => nestedArbiter).modLane 0 fun l =>
    { l with
      state := .passing, service := some 520, input := some .b, profile := some 1,
      reasons := { rating := true }, gate := .blank }

/-- Step 9: ACCESS_PIN is DISMISSED and becomes the lowest kind, and PURCHASE_OFFER becomes eligible. -/
theorem test_endPrompt_step9 :
    see (.endPrompt 1 0 255) nested
      (fun t => (t.arbiters[(0 : Fin 2)].lowest, t.arbiters[(0 : Fin 2)].stack, t.arbiters[(0 : Fin 2)].eligible,
        t.arbiters[(0 : Fin 2)].entries[(0 : Fin 8)].state, t.notices)) =
      some (0, [6], [3], .dismissed, [.prompt 0]) := by decide +kernel

theorem test_pollPrompt_none : answer (.pollPrompt 1 0) nested = some (.ok, [255]) := by decide +kernel

theorem test_maskPrompt : answer (.maskPrompt 1 1 0xA5) nested = some (.ok, [0xA5]) := by decide +kernel

theorem test_orderPrompt_busy : answer (.orderPrompt 1 0 7 1) nested = some (.busy, []) := by decide +kernel

/-! ### Reading and restart -/

theorem test_readClock_invalid : (answer (.readClock 1) site).map (fun a => (a.1, a.2.take 5)) =
    some (.ok, [0, 0, 0, 0, 0]) := by decide +kernel

theorem test_readLog : answer (.readLog 1 32) site = some (.range, []) := by decide +kernel

theorem test_readGuide_none : (answer (.readGuide 1 520 0) shop).map (fun a => a.1) = some .ok := by decide +kernel

theorem test_restart_keepsOptions :
    see (.restart 1) (carrying 4 .passing fun l => { l with ceiling := 4 })
      (fun t => (t.lanes[(4 : Fin 6)], t.map, t.services.length)) =
      some ({ Lane.powerOn with ceiling := 4 }, [], 2) := by decide +kernel

/-! ### Time -/

/-- The first conversion of chapter 7. -/
theorem test_localTime_daylight :
    let c : Clock := { clockAt 1000000000 with zone := -300, dstStart := 0, dstEnd := 4000000000, dstDelta := 60 }
    (c.day, c.minuteOfDay, c.minuteIndex, indexWeekday c.minuteIndex) = (11573, 1306, 16666426, 2) := by
  decide +kernel

/-- The limits of chapter 7. -/
theorem test_localTime_limits :
    let low : Clock := { clockAt 100 with zone := -720 }
    let high : Clock := { clockAt 4294967000 with zone := 840 }
    (low.minuteIndex, high.day, high.minuteIndex) = (0, 49710, 71582788) := by decide +kernel

/-- Row 30 of the tune in chapter 2: the dwell is reached and the lane stalls. -/
theorem test_tick_stalls :
    see .tickEvent (carrying 0 .acquiring fun l => { l with ticks := 29, reasons := { acquire := true } })
      (fun t => (t.lanes[(0 : Fin 6)].state, t.tickPhase, t.notices)) =
      some (.stalled, 1, [.lane 0, .prompt 0]) := by decide +kernel

/-- A lockout's last second (R173). -/
theorem test_second_lockout :
    ∀ profilesFirst timersFirst : Bool,
      let t := ((Ev.start (shop.modProfile 3 fun p => { p with lockout := 1 })).secondAt profilesFirst timersFirst).close
      (t.clock.now, (t.profiles[(3 : Fin 4)]).lockout, t.notices) = (800000001, 0, [.profile 3]) := by
  decide +kernel

theorem test_timerFire_remind :
    see (.timerFire 5 16666427)
      { shop with timers := shop.timers.set 5 { Timer.powerOn with
          isSet := true, weekday := none, hour := some 21, minute := some 47, service := 210, repeats := true } }
      (fun t => (t.timers[(5 : Fin 24)].lastFired, t.timers[(5 : Fin 24)].lastOutcome, t.notices)) =
      some (some 16666427, some .fired, [.prompt 0, .timer 5]) := by decide +kernel

/-! ### Outputs -/

/-- Step 4 of the recorder arbitration in chapter 3: after last granted 3, lane 5 is granted. -/
theorem test_recorder_step4 :
    see (.recorderGrant true)
      { ((site.modLane 2 fun l => { l with buffer := .programme readClockPacket }).modLane 5
          fun l => { l with buffer := .programme unknownPacket }) with lastGranted := 1 }
      (fun t => (t.recorder, t.lastGranted, t.lanes[(5 : Fin 6)].buffer)) =
      some (some ⟨3, false, unknownPacket⟩, 3, .empty) := by decide +kernel

theorem test_decoderOutputTake_blank :
    see (.decoderOutputTake 1 true) (site.modLane 1 fun l => { l with buffer := .blankOrder })
      (fun t => (t.decoders[(1 : Fin 2)].map fun p => streamNumber p, t.lanes[(1 : Fin 6)].buffer)) =
      some (some 8182, .empty) := by decide +kernel

/-- Step 3 of the full return queue in chapter 11: one free place is kept for responses. -/
theorem test_noticeMove_keepsOnePlace :
    let s : State := { site with
      notices := [.clock], returnQueue := List.replicate 15 ⟨0, .notice .clock []⟩ }
    see .noticeMove s id = some s := by decide +kernel

theorem test_powerOn : see .powerOn shop (fun t => (t.resetHeld, t.portCReady, t.services)) =
    some (true, false, []) := by decide +kernel

/-! ### Witnesses: for each statement with hypotheses, states and operands that meet those of each clause -/

/-- A return queue without a free place. -/
def full : State := { site with returnQueue := List.replicate 16 ⟨0, .notice .clock []⟩ }

/-- A state with lanes, keys, prompts, purchases and a guide, and a command that waits. -/
def busy : State :=
  { (carrying 0 .passing id).setSlot 2 (some { usedSlot with even := ⟨some ⟨10, 0⟩, none⟩ }) with
    clock := clockAt 800002000, guide := shop.guide, entitlement := shopSold.entitlement,
    arbiters := nested.arbiters, notices := [.clock, .lane 0], pending := [.untune 1 0] }

theorem witness_StepRunsTheFrontCommand :
    busy.pending = .untune 1 0 :: [] ∧ site.pending = [] := by decide

theorem witness_PowerOnAndHeldReset :
    Instr.tickEvent.wellFormed = true ∧ ({ site with resetHeld := true } : State).resetHeld = true ∧
      Instr.tickEvent ≠ .powerOn ∧ Instr.tickEvent ≠ .resetRelease ∧
      ∀ port, Instr.tickEvent ≠ .sendComplete port :=
  ⟨rfl, rfl, by decide, by decide, fun _ => by simp⟩

theorem witness_PortCTakesOnlyCommands_unready :
    full.portCReady = false ∧ ({ site with resetHeld := true } : State).portCReady = false ∧
      (Instr.readClock 1).wellFormed = true ∧ (encodeCommand (.readClock 1)).isSome = true ∧
      (Instr.unknownCommand unknownPacket).wellFormed = true := by decide +kernel

theorem witness_EveryHostCommandIsAnsweredOnce :
    encodeCommand (.restart 7) = some (0x7F, 7, []) ∧ encodeCommand (.tune 7 5 520 0) = some (0x20, 7, [5, 2, 8, 0]) ∧
      site.portCReady = true := by decide +kernel

theorem witness_PortCTakesOnlyCommands_packets :
    droppedOnPortC badSyncPacket = true ∧
      (droppedOnPortC shortPacket = false ∧ parsePayload (payload shortPacket) = none ∧ site.portCReady = true ∧
        (payload shortPacket).length = 3) ∧
      (droppedOnPortC unknownPacket = false ∧ parsePayload (payload unknownPacket) = none ∧
        (payload unknownPacket).take 4 = [0x50, 0x12, 0x34, 0x00]) ∧
      (droppedOnPortC readClockPacket = false ∧ (parsePayload (payload readClockPacket)).isSome = true) := by
  decide +kernel

theorem witness_CommandPacketRoundTrip :
    let i : Instr := .loadService 1 210 7 (List.replicate 56 (8190, 2)) 1 8190 65535
    i.wellFormed = true ∧ (packetOfCommand i).isSome = true := by decide +kernel

theorem witness_stepAnswersNext : ∃ t, step busy = .next t :=
  ⟨_, (show step busy = exec (.untune 1 0) { busy with pending := [] } from rfl).trans
    (by simp only [exec, execUntune]; exact command_ready rfl)⟩

theorem witness_EveryStepKeepsCredit : busy.entitlement.CreditSound := by
  unfold Entitlement.CreditSound; decide +kernel

theorem witness_EveryStepKeepsGates : busy.GatesSound := by unfold State.GatesSound; decide +kernel

theorem witness_EveryStepKeepsQueuesAndStacks : busy.QueuesSound ∧ busy.StacksSound := by
  unfold State.QueuesSound State.StacksSound Arbiter.StackSound; decide +kernel

theorem witness_EveryStepKeepsKeysCovered : busy.KeysCovered := by
  intro k slot hs h key hk
  have hv : ∀ j : Fin 16, (busy.slots[j]).all fun r =>
      r.even.key.all (fun x => busy.covered x.product busy.clock.now) &&
        r.odd.key.all fun x => busy.covered x.product busy.clock.now := by decide +kernel
  have hj := hv k
  rw [hs] at hj
  simp only [Option.all_some, Bool.and_eq_true] at hj
  cases h with
  | even =>
    have := hj.1
    rw [show slot.even.key = some key from hk] at this
    simpa using this
  | odd =>
    have := hj.2
    rw [show slot.odd.key = some key from hk] at this
    simpa using this

/-- A stream map judged by evaluation. -/
theorem mapSound_of (s : State)
    (h : ((s.map.map fun en => (en.input, en.stream)).Nodup ∧ s.map.length ≤ 96) ∧ s.map.all fun en =>
      match en.role with
      | .component destinations _ => decide (destinations ≠ [] ∧ destinations.Nodup)
      | .message _ _ => true) : s.MapSound := by
  refine ⟨h.1.1, fun en hen destinations slot hr => ?_, h.1.2⟩
  have := List.all_eq_true.mp h.2 en hen
  rw [hr] at this
  simpa using this

/-- The slots judged by evaluation. -/
theorem slotsDistinct_of (s : State)
    (h : ∀ j k : Fin 16, j = k ∨ ((s.slots[j]).all fun x => (s.slots[k]).all fun y =>
      decide ¬(x.input = y.input ∧ x.stream = y.stream)) = true) : s.SlotsDistinct := by
  intro j k x y hx hy hi hs
  refine (h j k).resolve_right fun hn => ?_
  rw [hx, hy] at hn
  simp [hi, hs] at hn

theorem witness_EveryStepKeepsStreamMapAndSlots : busy.MapSound ∧ busy.SlotsDistinct :=
  ⟨mapSound_of _ (by decide +kernel), slotsDistinct_of _ (by decide +kernel)⟩

theorem witness_EveryStepKeepsTables : busy.TablesSound ∧ busy.guide.Sound := by
  unfold State.TablesSound Guide.Sound; decide +kernel

theorem witness_EveryStepKeepsRanges : busy.InRange := by
  unfold State.InRange Lane.InRange Profile.InRange; decide +kernel

theorem witness_SoundGatePassesOnlyCleanLanes :
    ∀ i : Fin 6, (busy.lanes[i]).gateTarget = (busy.lanes[i]).gate ∧ (nested.lanes[i]).gateTarget = (nested.lanes[i]).gate ∧
      (busy.lanes[(0 : Fin 6)]).gate = .pass ∧ (nested.lanes[(0 : Fin 6)]).gate = .blank ∧
      (busy.lanes[(1 : Fin 6)]).gate = .hold := by decide +kernel

theorem witness_UnitZoneDepthAndClearKeys_unit :
    site.portCReady = true ∧ site.unitAddress = none ∧
      ({ site with unitAddress := some 5 } : State).unitAddress ≠ none := by decide

/-- A GUIDE route for stream 4010 on input B, with an assembly and a last count of 6. -/
def gathering (assembly : Assembly) : State :=
  { site with map := [⟨.b, 4010, .message .guide assembly, some 6, false⟩] }

theorem witness_DeclareInputLosesLanes :
    let s := carrying 5 .degraded id
    s.portCReady = true ∧ inputCode .b = 1 ∧ (s.input .b).declared = some 12 ∧ (s.input .b).declared ≠ none ∧
      s.laneService? 5 = some service520 ∧ (s.lanes[(5 : Fin 6)]).input = some .b ∧
      (s.lanes[(5 : Fin 6)]).state ∈ [LaneState.acquiring, .stalled, .passing, .degraded] ∧
      s.inputA.declared ≠ some 12 ∧ (s.lanes[(0 : Fin 6)]).input ≠ some .b ∧
      (s.lanes[(0 : Fin 6)]).state ≠ .lost ∧ (s.lanes[(0 : Fin 6)]).state ≠ .surveying ∧
      (∀ k ∈ [SectionKind.key, .grant, .time, .guide], s.map.filter
        (fun en => decide (en.input = .b ∧ en.route? = some k ∧ en.isAssembling = true)) = []) ∧
      (gathering (.assembling [4, 0x02, 0xBC] 703)).map.filter
        (fun en => decide (en.input = .b ∧ en.route? = some .guide ∧ en.isAssembling = true)) ≠ [] := by
  decide +kernel

/-- A site where lane `i` of `carrying` has lost service 520 and lane options or counts are set. -/
def lostOn (i : Fin 6) (f : Lane → Lane) : State :=
  { carrying i .lost f with inputB := ⟨.inSync, none⟩, map := [] }

theorem witness_DeclareInputReacquiresAndEndsTurns_sound :
    (∀ s ∈ [lostOn 0 id, carrying 5 .passing id, retaking], s.portCReady = true) ∧
      (retaking.MapSound ∧ retaking.SlotsDistinct) ∧ (lostOn 0 id).MapSound ∧ (lostOn 0 id).SlotsDistinct :=
  ⟨by decide +kernel, ⟨mapSound_of _ (by decide +kernel), slotsDistinct_of _ (by decide +kernel)⟩,
    mapSound_of _ (by decide +kernel), slotsDistinct_of _ (by decide +kernel)⟩

theorem witness_DeclareInputReacquiresAndEndsTurns_reacquire :
    let s := lostOn 0 fun l => { l with profile := some 3, reasons := { hostHold := true } }
    let clash := { s with map := [newEntry .b 601 (.message .grant .idle)] }
    (inputCode .b = (1#8).toNat ∧ 12#16 ≠ 0 ∧ (s.input .b).declared ≠ some 12) ∧
      ((s.lanes[(0 : Fin 6)]).state = .lost ∧ s.laneService? 0 = some service520 ∧
        (s.lanes[(0 : Fin 6)]).profile = some 3) ∧
      (see (.declareInput 1 1 1 12) s (fun t => (t.inputA.declared, t.inputB.declared)) =
          some (some 7, some 12) ∧ s.judge .b service520 = none) ∧
      (clash.judge .b service520 = some .conflict ∧ (clash.lanes[(0 : Fin 6)]).state = .lost) ∧
      see (.declareInput 1 1 1 13) s (fun t => (t.inputA.declared, t.inputB.declared)) =
        some (some 7, some 13) ∧
      (2 ≤ (5 : Fin 6).val ∧ ((lostOn 5 id).lanes[(5 : Fin 6)]).state = .lost) := by decide +kernel

theorem witness_DeclareInputReacquiresAndEndsTurns_loses :
    let s := carrying 5 .passing id
    (s.lanes[(5 : Fin 6)]).input = some .b ∧ (s.laneService? 5).map (fun r => r.multiplex) ≠ some 13 ∧
      (s.lanes[(5 : Fin 6)]).state ∈ [LaneState.acquiring, .stalled, .passing, .degraded] ∧
      (s.lanes[(0 : Fin 6)]).input ≠ some .b ∧ (s.input .b).declared ≠ some 13 := by decide +kernel

theorem witness_DeclareInputReacquiresAndEndsTurns_turn :
    let alone := retaking.modLane 0 fun l => { l with state := .idle, service := none, input := none }
    (retaking.lanes[(3 : Fin 6)]).state = .surveying ∧ (retaking.lanes[(3 : Fin 6)]).input = some .a ∧
      (retaking.laneService? 3).map (fun r => r.multiplex) = some 7 ∧ some 7 ≠ some 8 ∧
      (retaking.surveys[(3 : Fin 6)]).position = some (0 + 1) ∧
      (retaking.surveys[(3 : Fin 6)]).records[0]? = some (SurveyRecord.fresh 210) ∧
      (retaking.slots[(7 : Fin 16)]).map (fun k => (k.input, k.stream, k.users)) = some (.a, 301, [3]) ∧
      (retaking.service? 211).map (fun r => r.keyStream) = some (some 301) ∧
      (∀ j : Fin 6, j ≠ 3 → (alone.lanes[j]).input ≠ some .a ∧ (alone.lanes[j]).state ≠ .lost) := by decide +kernel

/-- 64 services: one that lane 3 uses, and 63 others. -/
def crowded : State :=
  { carrying 3 .lost id with
    services := service520 :: (List.range 63).map fun n => ⟨1000 + n, 9, [⟨1, .data⟩], none, 0⟩ }

theorem witness_ServiceTableCommands_load :
    (site.portCReady = true ∧ crowded.portCReady = true) ∧
      ((8190#16).toNat ≤ 8190 ∧ (2#8).toNat ≤ 2 ∧ [8190#16, 1#16].Nodup) ∧
      (∃ r ∈ crowded.services, r.number = 520) ∧
      (∃ i : Fin 6, (crowded.lanes[i]).state ≠ .idle ∧ (crowded.lanes[i]).service = some 520) ∧
      (¬∃ r ∈ crowded.services, r.number = 999) ∧ 64 ≤ crowded.services.length ∧
      (∃ r ∈ site.services, r.number = 520) ∧
      (¬∃ i : Fin 6, (site.lanes[i]).state ≠ .idle ∧ (site.lanes[i]).service = some 520) ∧
      (¬∃ r ∈ site.services, r.number = 999) ∧ site.services.length < 64 := by decide +kernel

theorem witness_ServiceTableCommands_dropAndRead :
    (site.portCReady = true ∧ ¬∃ r ∈ site.services, r.number = 999) ∧
      ((∃ r ∈ crowded.services, r.number = 520) ∧
        ∃ i : Fin 6, (crowded.lanes[i]).state ≠ .idle ∧ (crowded.lanes[i]).service = some 520) ∧
      ((∃ r ∈ site.services, r.number = 520) ∧
        ¬∃ i : Fin 6, (site.lanes[i]).state ≠ .idle ∧ (site.lanes[i]).service = some 520) ∧
      site.services.find? (fun q => decide (q.number = 520)) = some service520 := by decide +kernel

/-- A map with `n` GRANT routes on input A and a KEY route on input B. -/
def routed (n : Nat) : State :=
  { site with map := newEntry .b 301 (.message .key .idle) :: newEntry .b 310 (.component [0] none) ::
      (List.range n).map fun k => newEntry .a k (.message .grant .idle) }

theorem witness_HostRoutesAddedAndDropped :
    (routed 94).portCReady = true ∧ inputCode .a = 0 ∧ inputCode .b = 1 ∧ SectionKind.grant.code = 2 ∧
      SectionKind.guide.code = 4 ∧ ((routed 94).entry? .a 0).map MapEntry.route? = some (some .grant) ∧
      (routed 94).entry? .a 8190 = none ∧ (routed 94).map.length = 96 ∧
      (routed 93).entry? .a 8190 = none ∧ (routed 93).map.length < 96 ∧
      ((routed 94).entry? .b 310).map MapEntry.route? = some none ∧
      ((routed 94).entry? .b 301).map MapEntry.route? = some (some .key) := by decide +kernel

theorem witness_LoadProfileAndParentalConditions :
    site.portCReady = true ∧ (3 : Fin 4).val = (3#8).toNat ∧ ((9999#16).toNat ≤ 9999 ∨ 9999#16 = 0xFFFF) ∧
      (1#8).toNat ≤ 1 ∧ (15#8).toNat ≤ 15 ∧ (1439#16).toNat ≤ 1439 ∧ (1440#16).toNat ≤ 1440 ∧ 3 < (4#8).toNat := by
  decide

theorem witness_TimersSetClearedAndRead_set :
    site.portCReady = true ∧ (23 : Fin 24).val = (23#8).toNat ∧ 23 < (24#8).toNat ∧ (6#8).toNat ≤ 6 ∧
      (23#8).toNat ≤ 23 ∧ (59#8).toNat ≤ 59 ∧ (1#8 = 1 → 2 ≤ (5#8).toNat ∧ (5#8).toNat ≤ 5 ∧
      1 ≤ (720#16).toNat ∧ (720#16).toNat ≤ 720) ∧ (0#8 = 0 → (1#8).toNat ≤ 1) := by decide

theorem witness_TimersSetClearedAndRead_clearAndRead :
    let s := site.modTimer 23 fun t => { t with isSet := true }
    s.portCReady = true ∧ 23 < (24#8).toNat ∧ (23 : Fin 24).val = (23#8).toNat ∧
      (s.timers[(23 : Fin 24)]).isSet = true ∧ (s.timers[(0 : Fin 24)]).isSet = false := by decide +kernel

theorem witness_SetLaneOptionsClampsAndRecovers :
    let s := carrying 5 .degraded fun l => { l with reasons := { degrade := true } }
    s.portCReady = true ∧ (5 : Fin 6).val = (5#8).toNat ∧ (1#8).toNat ≤ 1 ∧ 5 < (6#8).toNat ∧
      (s.lanes[(5 : Fin 6)]).state = .degraded ∧ (s.lanes[(5 : Fin 6)]).health = 8 ∧
      (s.lanes[(4 : Fin 6)]).state ≠ .surveying := by decide +kernel

theorem witness_UnitZoneDepthAndClearKeys_slots :
    busy.portCReady = true ∧ 15 < (16#8).toNat ∧ (15 : Fin 16).val = (15#8).toNat ∧
      busy.slots[(15 : Fin 16)] = none ∧ (busy.slots[(2 : Fin 16)]).isSome = true := by decide +kernel

theorem witness_TuneStartsAcquisition :
    (site.portCReady = true ∧ (1 : Fin 6).val = (1#8).toNat ∧ (3#8).toNat ≤ 3 ∧
      site.service? 210 = some service210 ∧ site.carrier 7 = some .a ∧ (site.detach 1).judge .a service210 = none ∧
      (3 : Fin 4).val = (3#8).toNat ∧ (site.lanes[(1 : Fin 6)]).state ≠ .surveying) ∧
      (let s := carrying 5 .surveying fun l => { l with reasons := { acquire := true } }
       2 ≤ (5 : Fin 6).val ∧ (s.lanes[(5 : Fin 6)]).state = .surveying ∧ s.service? 520 = some service520 ∧
        s.carrier 12 = some .b ∧ (s.detach 5).judge .b service520 = none) := by decide +kernel

theorem witness_TuneStartsAcquisition_map : site.MapSound ∧ (carrying 5 .surveying id).MapSound :=
  ⟨mapSound_of _ (by decide +kernel), mapSound_of _ (by decide +kernel)⟩

/-- Stream 310 of input A is a GRANT route. -/
def clashing : State := { site with map := [newEntry .a 310 (.message .grant .idle)] }

theorem witness_TuneChecksInOrder :
    site.portCReady = true ∧ 5 < (6#8).toNat ∧ ((1#8).toNat < 2 ∧ 3 < (4#8).toNat) ∧
      (5 : Fin 6).val = (5#8).toNat ∧ site.service? 999 = none ∧
      site.service? 210 = some service210 ∧ State.reset.inputA.declared ≠ some 7 ∧
      State.reset.inputB.declared ≠ some 7 ∧ site.inputA.declared = some 7 ∧
      (site.inputA.declared ≠ some 12 ∧ site.inputB.declared = some 12) ∧
      (clashing.detach 5).judge .a service210 = some .conflict ∧
      ((routed 94).detach 5).judge .a { service210 with components := [⟨8000, .video⟩] } = some .full := by
  decide +kernel

theorem witness_UntuneLeavesTheLaneIdle :
    site.portCReady = true ∧ 5 < (6#8).toNat ∧ (5 : Fin 6).val = (5#8).toNat ∧
      (site.lanes[(5 : Fin 6)]).state = .idle ∧
      ((carrying 5 .passing id).lanes[(5 : Fin 6)]).state ≠ .idle ∧
      ((carrying 5 .passing id).lanes[(5 : Fin 6)]).state ≠ .surveying ∧
      ((carrying 5 .surveying id).lanes[(5 : Fin 6)]).state = .surveying := by decide +kernel

theorem witness_UntuneLeavesTheLaneIdle_map : (carrying 5 .passing id).MapSound :=
  mapSound_of _ (by decide +kernel)

theorem witness_LaneControlSetsHostReasons :
    site.portCReady = true ∧ 5 < (6#8).toNat ∧ 2 < (3#8).toNat ∧ (5 : Fin 6).val = (5#8).toNat ∧ (2#8).toNat ≤ 2 ∧
      (site.lanes[(5 : Fin 6)]).state = .idle ∧
      ((carrying 5 .surveying id).lanes[(5 : Fin 6)]).state = .surveying ∧
      ((carrying 5 .lost id).lanes[(5 : Fin 6)]).state ≠ .idle ∧
      ((carrying 5 .lost id).lanes[(5 : Fin 6)]).state ≠ .surveying := by decide +kernel

theorem witness_SurveyTakesUpItsFirstTurn :
    site.portCReady = true ∧ 5 < (6#8).toNat ∧ (5 : Fin 6).val = (5#8).toNat ∧
      ((carrying 5 .lost id).lanes[(5 : Fin 6)]).state ≠ .idle ∧ (site.lanes[(5 : Fin 6)]).state = .idle ∧
      16 < (List.replicate 17 210#16).length ∧
      List.replicate 16 210#16 = 210 :: List.replicate 15 210 ∧ (List.replicate 16 210#16).length ≤ 16 ∧
      site.service? 210 = some service210 ∧ site.carrier 7 = some .a ∧
      site.judge .a service210 = none := by decide +kernel

theorem witness_SurveyTakesUpItsFirstTurn_map :
    site.MapSound ∧ ∀ (m : Input) (x : Nat), ¬site.Member 5 m x ∧ ¬site.UsesSlot 5 m x := by
  have hm : site.map = [] := by decide +kernel
  have hk : ∀ k : Fin 16, site.slots[k] = none := by decide +kernel
  refine ⟨mapSound_of _ (by decide +kernel), fun m x => ⟨?_, ?_⟩⟩
  · rintro ⟨en, hen, _⟩
    rw [hm] at hen
    cases hen
  · rintro ⟨k, slot, hs, _⟩
    rw [hk k] at hs
    cases hs

/-- Lane 5 measures service 520; then come 999, which is not loaded, 330, which no input carries, and 210. -/
def touring (records : List Nat) : State :=
  { carrying 5 .surveying (fun l => { l with ticks := 30, reasons := { acquire := true } }) with
    services := [service210, service520, ⟨330, 9, [⟨900, .data⟩], none, 0⟩]
    surveys := site.surveys.set 5 ⟨.running, some 1, records.map SurveyRecord.fresh⟩ }

theorem witness_SurveyTurnsTakenUp :
    let fates (k : Nat) : SurveyOutcome × Option InstallRefusal :=
      if k = 1 then (.noSuch, none) else (.notCarried, none)
    let ends := touring [520, 999, 330]
    let goes := touring [520, 999, 330, 210]
    (∀ s ∈ [ends, goes], s.resetHeld = false ∧ (s.lanes[(5 : Fin 6)]).state = .surveying ∧
      (s.lanes[(5 : Fin 6)]).dwell ≤ (s.lanes[(5 : Fin 6)]).ticks ∧
      (s.surveys[(5 : Fin 6)]).position = some (0 + 1) ∧
      (s.surveys[(5 : Fin 6)]).records[0]? = some (SurveyRecord.fresh 520) ∧ 0 < 3 ∧
      3 ≤ (s.surveys[(5 : Fin 6)]).records.length ∧
      (s.surveys[(5 : Fin 6)]).records[1]? = some (SurveyRecord.fresh 999) ∧
      (s.surveys[(5 : Fin 6)]).records[2]? = some (SurveyRecord.fresh 330) ∧
      (s.service? 999 = none ∧ fates 1 = (.noSuch, none)) ∧
      ((s.service? 330).map (fun r => s.carrier r.multiplex) = some none ∧ fates 2 = (.notCarried, none))) ∧
      (ends.surveys[(5 : Fin 6)]).records.length = 3 ∧
      ((goes.surveys[(5 : Fin 6)]).records[3]? = some (SurveyRecord.fresh 210) ∧
        goes.service? 210 = some service210 ∧ goes.carrier 7 = some .a ∧
        (goes.detach 5).judge .a service210 = none) := by decide +kernel

theorem witness_SurveyTurnsTakenUp_refusedTurn :
    let s := { touring [520, 210] with
      map := newEntry .a 311 (.message .grant .idle) :: (touring [520, 210]).map }
    s.service? 210 = some service210 ∧ s.carrier 7 = some .a ∧ (s.detach 5).judge .a service210 ≠ none ∧
      (s.detachKeeping 5 []).judge .a service210 = some .conflict ∧
      (service210.keyPair .a).toList = [(.a, 301)] := by decide +kernel

theorem witness_SurveyTurnsTakenUp_sound : ∀ s ∈ [touring [520, 999, 330], touring [520, 999, 330, 210]],
    s.MapSound ∧ s.SlotsDistinct :=
  fun s hs => ⟨mapSound_of _ (by revert s; decide +kernel), slotsDistinct_of _ (by revert s; decide +kernel)⟩

theorem witness_PurchaseAndUnlockAskForThePin_purchase :
    shop.portCReady = true ∧ 3 < (4#8).toNat ∧ 9999 < (10000#16).toNat ∧ (3 : Fin 4).val = (3#8).toNat ∧
      (9999#16).toNat ≤ 9999 ∧ site.clock.valid = false ∧ shop.clock.valid = true ∧
      0 < ((shop.modProfile 3 fun p => { p with lockout := 1 }).profiles[(3 : Fin 4)]).lockout ∧
      (shop.profiles[(3 : Fin 4)]).lockout = 0 ∧ (shop.profiles[(3 : Fin 4)]).pin ≠ some 9999 ∧
      ¬((shop.profiles[(0 : Fin 4)]).pin = some 9999 ∧ (shop.profiles[(0 : Fin 4)]).lockout = 0) ∧
      (shop.profiles[(3 : Fin 4)]).failures < 2 ∧
      2 ≤ ((shop.modProfile 3 fun p => { p with failures := 2 }).profiles[(3 : Fin 4)]).failures := by
  decide +kernel

theorem witness_PurchaseAndUnlockAskForThePin_unlock :
    9999 < (10000#16).toNat ∧ 2 < (3#8).toNat ∧ 5 < (6#8).toNat ∧ 3 < (4#8).toNat ∧
      ((2#8).toNat ≤ 2 ∧ (3#8).toNat ≤ 3 ∧ (1#16) ≠ 0 ∧ (9999#16).toNat ≤ 9999) ∧
      0 < ((shop.modProfile 0 fun p => { p with lockout := 1 }).profiles[(0 : Fin 4)]).lockout ∧
      ((shop.profiles[(0 : Fin 4)]).lockout = 0 ∧ (shop.profiles[(0 : Fin 4)]).pin ≠ some 9999 ∧
        (shop.profiles[(0 : Fin 4)]).pin = some 9090 ∧ (9090#16).toNat ≤ 9999) ∧
      ((0#8).toNat ≤ 2 ∧ (2 : Fin 6).val = (2#8).toNat ∧ 2 ≤ (2 : Fin 6).val ∧
        (shop.lanes[(1 : Fin 6)]).state = .idle ∧
        ((carrying 1 .surveying id).lanes[(1 : Fin 6)]).state = .surveying) := by decide +kernel

/-- `shop` with its one event priced anew, at a network second. -/
def shopAt (n price : Nat) : State :=
  { shop with clock := clockAt n, guide := { Guide.powerOn with entries := [⟨210, 501, 800003600, 90, 0, 4300, price⟩] } }

/-- `shopSold` with a full log that holds no credit. -/
def shopFull : State :=
  { shop with entitlement := { shop.entitlement with
      log := (List.range 32).map fun k => ⟨k + 1, 501, 210, 4300, 1, 800000000, 1, .cancelled⟩, nextSequence := 33 } }

/-- `shop` with 48 grants, none of which ends. -/
def shopGranted : State :=
  { shop with entitlement := { shop.entitlement with
      grants := (List.range 48).map fun k => ⟨k + 1, .headend, 0, none, none⟩ } }

theorem witness_PurchaseChecksInOrder :
    (shop.portCReady = true ∧ (1 : Fin 4).val = (1#8).toNat ∧ (2468#16).toNat ≤ 9999 ∧ shop.clock.valid = true ∧
      (shop.profiles[(1 : Fin 4)]).lockout = 0 ∧ (shop.profiles[(1 : Fin 4)]).pin = some 2468) ∧
      (let s := shop.modProfile 1 fun p => { p with purchaseAllowed := false }
       (s.profiles[(1 : Fin 4)]).pin = some 2468 ∧ (s.profiles[(1 : Fin 4)]).purchaseAllowed = false) ∧
      ¬((shop.profiles[(1 : Fin 4)]).pin = some 2468 ∧ (shop.profiles[(1 : Fin 4)]).purchaseAllowed = false) ∧
      shop.purchaseEntry 210 502 = none ∧
      ((shopAt 800000000 0).purchaseEntry 210 501).map (fun g => g.price) = some 0 ∧
      ((shopAt 800009000 120).purchaseEntry 210 501).map (fun g => g.stop) = some 800009000 ∧
      (shopAt 800009000 120).clock.now = 800009000 ∧
      ((shopAt 800008999 120).purchaseEntry 210 501).map (fun g => g.stop) = some 800009000 ∧
      shopSold.covered 4300 (max 800000000 800003600) = true ∧
      shop.covered 4300 (max 800000000 800003600) = false ∧
      (shop.entitlement.ceiling < shop.entitlement.spent + 501) ∧
      (shop.entitlement.spent + 500 ≤ shop.entitlement.ceiling) ∧
      (32 ≤ shopFull.entitlement.log.length ∧ shopFull.entitlement.spent + 120 ≤ shopFull.entitlement.ceiling) ∧
      (shopGranted.entitlement.log.length < 32 ∧ shopGranted.entitlement.grants.length = 48 ∧
        (∀ h ∈ shopGranted.entitlement.grants, h.endedAt shopGranted.clock.now = false) ∧
        shopGranted.covered 4300 (max 800000000 800003600) = false ∧
        ¬∃ h ∈ shopGranted.entitlement.grants, h.product = 4300 ∧ h.source = .purchase) := by decide +kernel

theorem witness_PurchaseAppendsRecordAndGrant :
    let g : GuideEntry := ⟨210, 501, 800003600, 90, 0, 4300, 120⟩
    shop.portCReady = true ∧ (1 : Fin 4).val = (1#8).toNat ∧ (2468#16).toNat ≤ 9999 ∧ shop.clock.valid = true ∧
      (shop.profiles[(1 : Fin 4)]).lockout = 0 ∧ (shop.profiles[(1 : Fin 4)]).pin = some 2468 ∧
      (shop.profiles[(1 : Fin 4)]).purchaseAllowed = true ∧ (shop.profiles[(1 : Fin 4)]).pin ≠ some 9090 ∧
      (shop.profiles[(0 : Fin 4)]).pin = some 9090 ∧ (shop.profiles[(0 : Fin 4)]).lockout = 0 ∧
      shop.purchaseEntry 210 501 = some g ∧ g.price ≠ 0 ∧ shop.clock.now < g.stop ∧
      shop.covered g.product (max shop.clock.now g.start) = false ∧
      (∀ h ∈ shop.entitlement.grants, ¬(h.product = g.product ∧ h.source = .purchase)) ∧
      shop.entitlement.spent + g.price ≤ shop.entitlement.ceiling ∧ shop.entitlement.log.length < 32 ∧
      (∀ s ∈ [shop, { shop with entitlement := { shop.entitlement with
            grants := (List.range 48).map fun k => ⟨k + 1, .headend, 0, some (800000000 + k), none⟩ } }],
        (s.entitlement.grants.filter fun h => !h.endedAt s.clock.now).length < 48) := by decide +kernel

theorem witness_CancelReturnsCredit :
    let find (s : State) := s.entitlement.log.find? fun r => decide (r.sequence = 1 ∧ r.state = .active)
    let grant (s : State) :=
      s.entitlement.grants.find? fun g =>
        decide (g.source = .purchase ∧ g.product = 4300 ∧ g.sequence = some 1)
    shop.portCReady = true ∧ (∀ r ∈ shop.entitlement.log, ¬(r.sequence = 1 ∧ r.state = .active)) ∧
      (find shopSold).map (fun r => r.product) = some 4300 ∧ ({ shopSold with clock := .powerOn } : State).clock.valid = false ∧
      shopSold.clock.valid = true ∧
      (∀ g ∈ ({ shopSold with entitlement := { shopSold.entitlement with grants := [] } } : State).entitlement.grants,
        ¬(g.source = .purchase ∧ g.product = 4300 ∧ g.sequence = some 1)) ∧
      (grant shopSold).map (fun g => g.start) = some 800003600 ∧
      ({ shopSold with clock := clockAt 800003600 } : State).clock.now = 800003600 ∧
      ({ shopSold with clock := clockAt 800003599 } : State).clock.now < 800003600 := by decide +kernel

theorem witness_RescanEmptiesUncoveredHalves :
    busy.slots[(0 : Fin 16)] = none ∧ (busy.slots[(2 : Fin 16)]).isSome = true := by decide +kernel

theorem witness_UnlockSetsItsOverride :
    (nested.portCReady = true ∧ (9090#16).toNat ≤ 9999 ∧ (nested.profiles[(0 : Fin 4)]).lockout = 0 ∧
      (nested.profiles[(0 : Fin 4)]).pin = some 9090) ∧
      ((0 : Fin 6).val = (0#8).toNat ∧ (nested.lanes[(0 : Fin 6)]).state ≠ .idle ∧
        (nested.lanes[(0 : Fin 6)]).state ≠ .surveying ∧ (nested.lanes[(0 : Fin 6)]).profile = some 1 ∧
        (nested.lanes[(0 : Fin 6)]).state ∈ [LaneState.acquiring, .stalled, .passing, .degraded]) ∧
      ((1 : Fin 6).val < 2 ∧ ((carrying 1 .lost id).lanes[(1 : Fin 6)]).profile = none ∧
        ((carrying 1 .lost id).lanes[(1 : Fin 6)]).state ∉
          [LaneState.acquiring, .stalled, .passing, .degraded]) ∧
      ((1 : Fin 4).val = (1#8).toNat ∧ (241#16) ≠ 0 ∧ (3 : Fin 4).val = (3#8).toNat ∧
        (nested.lanes[(1 : Fin 6)]).profile ≠ some 1) := by decide +kernel

theorem witness_PollAndEndPrompt :
    (nested.portCReady = true ∧ 1 < (2#8).toNat ∧ 7 < (8#8).toNat ∧ 8#8 ≠ 255 ∧ (0 : Fin 2).val = (0#8).toNat) ∧
      (nested.arbiters[(0 : Fin 2)]).eligible = [] ∧
      (let a := (shop.modArbiter 1 fun a => a.modEntry 7 fun e => { e with state := .pending }).arbiters[(1 : Fin 2)]
       a.eligible = [7] ∧ (a.entries[(7 : Fin 8)]).state = .pending ∧ (a.entries[(7 : Fin 8)]).masked = false ∧
        a.stack = []) ∧
      ((nested.arbiters[(0 : Fin 2)]).stack.getLast? = some 0 ∧
        ((nested.arbiters[(0 : Fin 2)]).entries[(6 : Fin 8)]).state = .inService ∧
        ((nested.arbiters[(0 : Fin 2)]).entries[(7 : Fin 8)]).state ≠ .inService) := by decide +kernel

theorem witness_MaskAndOrderPrompt :
    let s := shop.modArbiter 1 fun a => a.modEntry 7 fun e => { e with state := .pending, masked := true }
    shop.portCReady = true ∧ 1 < (2#8).toNat ∧ 7 < (8#8).toNat ∧ (1 : Fin 2).val = (1#8).toNat ∧
      (7 : Fin 8).val = (7#8).toNat ∧ (1#8).toNat ≤ 1 ∧ (nested.arbiters[(0 : Fin 2)]).stack ≠ [] ∧
      (s.arbiters[(1 : Fin 2)]).stack = [] ∧ (s.arbiters[(1 : Fin 2)]).eligible = [] ∧
      ((s.arbiters[(1 : Fin 2)]).modEntry 7 fun e => { e with masked := false }).eligible ≠ [] := by decide +kernel

theorem untune_occupied (e : Ev) (occupied : (e.now.lanes[(0 : Fin 6)]).state ≠ .idle) :
    e.untune (BitVec.toNat (0 : Byte)) = ((e.abortIfSurveying 0).untuneLane 0 .untuned).ok := if_neg occupied

/-- UNTUNE of a lane that is not IDLE answers OK with an empty result. -/
theorem test_untune_accepted (s : State) (ready : s.portCReady = true)
    (occupied : (s.lanes[(0 : Fin 6)]).state ≠ .idle) :
    ∃ u : State, exec (.untune 1 0) s = .next (u.respond 1 0x21 .ok []) := by
  simp only [exec, execUntune, command_ready ready, untune_occupied (Ev.start s) occupied]
  exact ⟨_, rfl⟩

/-- An accepted UNTUNE of lane 0 with kinds IN_SERVICE at its display. -/
theorem witness_LevelPromptsFollowTheirCauses :
    nested.portCReady = true ∧ (0 : Fin 2).val = (0#8).toNat ∧
      (nested.lanes[laneOfDisplay 0]).state ≠ .idle ∧
      (∃ u : State, exec (.untune 1 0) nested = .next (u.respond 1 0x21 .ok [])) ∧
      ∃ k : Fin 8, k.val ≤ 5 ∧ ((nested.arbiters[(0 : Fin 2)]).entries[k]).state = .inService :=
  ⟨by decide +kernel, by decide, by decide +kernel,
    test_untune_accepted nested (by decide +kernel) (by decide +kernel), by decide +kernel⟩

/-- A lane that stalls as the event closes raises SIGNAL, and its kind is PENDING (R180, R182, R183). -/
theorem test_stalled_raisesSignal :
    see (.stalled 0) (carrying 0 .acquiring fun l => { l with ticks := 30 })
      (fun t => ((t.arbiters[(0 : Fin 2)]).entries[(5 : Fin 8)].state, t.notices)) =
      some (.pending, [.lane 0, .prompt 0]) := by decide +kernel

theorem witness_NoticeSnapshotsAndOrder : busy.portCReady = true ∧ busy.notices = [.clock, .lane 0] := by
  decide +kernel

theorem witness_FieldsPacketsAndFramesAsBytes :
    (ReturnBody.response 0x1234 0x20 .ok (List.replicate 178 0)).payload.length ≤ 184 := by decide +kernel

theorem witness_ReadLaneGrantAndLog_lane :
    site.portCReady = true ∧ 5 < (6#8).toNat ∧ (5 : Fin 6).val = (5#8).toNat := by decide

theorem witness_ReadLaneGrantAndLog_tables :
    shopSold.portCReady = true ∧ 47 < (48#8).toNat ∧ (47#8).toNat ≤ 47 ∧ 31 < (32#8).toNat ∧ (31#8).toNat ≤ 31 ∧
      (shopSold.entitlement.grants[0]?).isSome = true ∧ shopSold.entitlement.grants.length ≤ 47 ∧
      (shopFull.entitlement.log[31]?).isSome = true ∧ shopSold.entitlement.log.length ≤ 31 := by decide +kernel

theorem witness_OtherReadsChangeNothing :
    let s := { site with
      surveys := site.surveys.set 5 ⟨.running, some 1, List.replicate 16 (SurveyRecord.fresh 520)⟩
      slots := site.slots.set 15 (some usedSlot), guide := shop.guide }
    let held (n : Nat) := s.guide.entries.filter fun g => decide (g.service = n)
    (s.portCReady = true ∧ 15 < (16#8).toNat ∧ (15 : Fin 16).val = (15#8).toNat ∧ s.slots[(0 : Fin 16)] = none ∧
      s.slots[(15 : Fin 16)] = some usedSlot) ∧
      (383 < (384#16).toNat ∧ (383#16).toNat ≤ 383 ∧ (210#16) ≠ 0 ∧ ((held 210)[0]?).isSome = true ∧
        (held 210).length ≤ 383 ∧ held 520 = []) ∧
      (5 < (6#8).toNat ∧ 16 < (17#16).toNat ∧ (5 : Fin 6).val = (5#8).toNat ∧ (16#8).toNat ≤ 16 ∧
        (s.surveys[(0 : Fin 6)]).status = .none ∧ (s.surveys[(5 : Fin 6)]).status ≠ .none ∧
        (s.surveys[(5 : Fin 6)]).records[15]? = some (SurveyRecord.fresh 520)) ∧
      (3 < (4#8).toNat ∧ (3 : Fin 4).val = (3#8).toNat) := by decide +kernel

theorem witness_RestartClearsAndKeeps : busy.portCReady = true := by decide +kernel

theorem witness_CablePacketDispositions :
    (site.resetHeld = false ∧ packetByte badSyncPacket 0 ≠ 0x47#8 ∧ (site.input .a).sync = .inSync ∧
      (({ site with inputA := ⟨.outOfSync, none⟩ } : State).input .a).sync = .outOfSync) ∧
      (packetByte (clearPacket 8191 0 false false []) 0 = 0x47#8 ∧
        streamNumber (clearPacket 8191 0 false false []) = 8191 ∧
        site.entry? .a (streamNumber (clearPacket 8190 0 false false [])) = none) ∧
      (let p := clearPacket 0 15 false false []
       packetByte p 0 = 0x47#8 ∧ errorFlag p = false ∧ wirePhase p ≠ .reserved ∧ startFlag p = false ∧
        streamNumber p ≠ 8191 ∧ (routed 1).entry? .a (streamNumber p) = some (newEntry .a 0 (.message .grant .idle))) ∧
      ((gathering (.assembling [4] 703)).input .b).sync = .inSync ∧
      (gathering (.assembling [4] 703)).map.filter
        (fun en => decide (en.input = .b ∧ en.route? = some .guide ∧ en.isAssembling = true)) ≠ [] := by
  decide +kernel

theorem witness_ContinuityTable :
    (hasPayload (packetOfBytes [0x47, 0x04]) = false ∧ hasPayload (clearPacket 512 0 false false []) = true) ∧
      discontinuityFlag (clearPacket 512 9 false true [1, 0x80]) = true ∧
      discontinuityFlag (clearPacket 512 0 false false []) = false ∧
      sequenceCount (clearPacket 512 0 false false []) = (15#4) + 1 ∧
      (payloadFlag (clearPacket 512 0 false false []) = true ∧ payloadFlag (packetOfBytes [0x47, 0x04]) = false) ∧
      (extensionFlag (clearPacket 512 0 false false []) = false ∧
        packetByte (clearPacket 512 0 false true [0]) 4 = 0) := by decide +kernel

/-! Packets at MESSAGE and COMPONENT entries. The check values of the sections were worked out by hand from the
polynomial of section 1.2, not by the model. -/

/-- A packet of stream 4010 on input B with a section start, sequence count 7. -/
def startPacket (bytes : List Byte) : Packet := clearPacket 4010 7 true false bytes

/-- A KEY section: product 4100, EVEN, key value 10. -/
def keySection : List Byte :=
  [1, 0, 16, 1, 0x10, 0x04, 2, 0, 0, 0, 0, 0, 0, 0, 10, 0x12, 0x00, 0x10, 0x38]

/-- A GRANT section: for unit 0x00A1B2C3, REMOVE of product 5. -/
def grantSection : List Byte := [2, 0, 12, 0x00, 0xA1, 0xB2, 0xC3, 1, 2, 0, 5, 0x8B, 0x82, 0x92, 0x07]

/-- A TIME section: message time 800,000,000 and no daylight saving. -/
def timeSection : List Byte :=
  [3, 0, 17, 0x2F, 0xAF, 0x08, 0x00, 0, 0, 0, 0, 0, 0, 0, 0, 0, 0x5D, 0x0C, 0x48, 0x9E]

/-- A GUIDE section: service 210, event 501 at 800,003,600 for 90 minutes, rating 9, product 4300, price 120. -/
def guideSection : List Byte :=
  [4, 0, 20, 0, 210, 1, 0x01, 0xF5, 0x2F, 0xAF, 0x16, 0x10, 0, 90, 9, 0x10, 0xCC, 0, 120, 0x80, 0x14, 0x08, 0x16]

theorem test_crc : ∀ bs ∈ [keySection, grantSection, timeSection, guideSection],
    crc bs = 0 ∧ crc (bs.set 5 0xFF) ≠ 0 := by decide +kernel

/-- What a whole section in one packet asks of an entry that holds none. -/
theorem completes_of (en : MapEntry) (p : Packet) (kind hi lo : Byte) (rest : List Byte)
    (hp : payload p = kind :: hi :: lo :: rest)
    (h : (wirePhase p = .clear ∧ startFlag p = true ∧ (en.continuity p).1 = .accepted ∧ en.isAssembling = false) ∧
      4 ≤ (word16 hi lo).toNat ∧ (word16 hi lo).toNat ≤ 1021 ∧ 3 + (word16 hi lo).toNat ≤ (payload p).length) :
    en.Completes p [] ((payload p).take (3 + (word16 hi lo).toNat)) :=
  ⟨h.1.1, .inr ⟨h.1.2.1, .inl ⟨h.1.2.2.1, by rw [h.1.2.2.2]; rfl⟩, kind, hi, lo, rest, hp, h.2.1, h.2.2.1,
    h.2.2.2, rfl⟩⟩

theorem witness_SectionAssembly :
    let s := gathering (.assembling [4, 0x02, 0xBC] 703)
    let en (last : BitVec 4) : MapEntry := ⟨.b, 4010, .message .guide (.assembling [4, 0x02, 0xBC] 703), some last, false⟩
    let next := clearPacket 4010 7 false false [5]
    let scrambled := packetOfBytes [0x47, 0x27, 0x8F, 0xAA]
    (s.resetHeld = false ∧ packetByte next 0 = 0x47#8 ∧ errorFlag next = false ∧ wirePhase next ≠ .reserved ∧
        streamNumber next = 4010 ∧ s.entry? .b 4010 = some (en 6)) ∧
      (((en 7).continuity next).1 = .duplicate ∧ ((en 6).continuity next).1 = .accepted ∧
        ((en 3).continuity next).1 = .error ∧ (en 3).isAssembling = true ∧
        ((en 6).continuity (packetOfBytes [0x47, 0x07, 0x0F, 0xAA])).1 = .uncounted) ∧
      (wirePhase scrambled = .even ∧ startFlag next = false ∧
        ([4, 0x02, 0xBC] ++ (payload next).take (703 - 3)).length ≠ 703) ∧
      ((payload (clearPacket 4010 7 true true [181])).length < 3 ∧
        startFlag (clearPacket 4010 7 true true [181]) = true) ∧
      ((payload (startPacket [4, 0, 3])).take 3 = [4, 0, 3] ∧ (word16 0 3).toNat < 4 ∧
        1021 < (word16 0x03 0xFE).toNat ∧ (word16 0x03 0xFD).toNat = 1021 ∧ (word16 0 4).toNat = 4 ∧
        (payload (startPacket [4, 0x03, 0xFD])).length < 3 + 1021) := by decide +kernel

theorem witness_SectionAssembly_whole :
    (gathering .idle).MapSound ∧ (∃ bytes, (⟨.b, 4010, .message .guide .idle, some 6, false⟩ : MapEntry).Completes
        (startPacket (timeSection.set 5 0xFF)) [] bytes ∧ crc bytes ≠ 0) ∧
      ∃ bytes, (⟨.b, 4010, .message .guide .idle, some 6, false⟩ : MapEntry).Completes
        (startPacket timeSection) [] bytes ∧ crc bytes = 0 ∧ (bytes.headD 0).toNat ≠ SectionKind.guide.code :=
  ⟨mapSound_of _ (by decide +kernel),
    ⟨_, completes_of _ _ 3 0 17 ((payload (startPacket (timeSection.set 5 0xFF))).drop 3) (by decide +kernel)
      (by decide +kernel), by decide +kernel⟩,
    ⟨_, completes_of _ _ 3 0 17 ((payload (startPacket timeSection)).drop 3) (by decide +kernel)
      (by decide +kernel), by decide +kernel, by decide +kernel⟩⟩

/-- A route of a kind for stream 4010 on input B, and a slot for that stream if `slot` says so. -/
def awaiting (route : SectionKind) (slot : Bool) : State :=
  { gathering .idle with
    map := [⟨.b, 4010, .message route .idle, some 6, false⟩]
    slots := if slot then site.slots.set 9 (some { usedSlot with input := .b, stream := 4010 }) else site.slots }

theorem witness_CompletedSectionReachesItsOwner :
    (∀ c ∈ [(SectionKind.key, true, keySection), (.key, false, keySection), (.grant, false, grantSection),
        (.time, false, timeSection), (.guide, false, guideSection)],
      (awaiting c.1 c.2.1).resetHeld = false ∧ packetByte (startPacket c.2.2) 0 = 0x47#8 ∧
        errorFlag (startPacket c.2.2) = false ∧ streamNumber (startPacket c.2.2) = 4010 ∧
        ((awaiting c.1 c.2.1).entry? .b 4010).bind MapEntry.route? = some c.1 ∧
        ((payload (startPacket c.2.2)).take c.2.2.length = c.2.2 ∧ crc c.2.2 = 0 ∧
          (c.2.2.headD 0).toNat = c.1.code)) ∧
      (awaiting .key true).slotFor .b 4010 = some 9 ∧ (awaiting .key false).slotFor .b 4010 = none := by
  decide +kernel

theorem witness_CompletedSectionReachesItsOwner_whole :
    (awaiting .guide false).MapSound ∧ ∃ bytes,
      (⟨.b, 4010, .message .guide .idle, some 6, false⟩ : MapEntry).Completes (startPacket guideSection) [] bytes ∧
        crc bytes = 0 ∧ (bytes.headD 0).toNat = SectionKind.guide.code :=
  ⟨mapSound_of _ (by decide +kernel), _,
    completes_of _ _ 4 0 20 ((payload (startPacket guideSection)).drop 3) (by decide +kernel) (by decide +kernel),
    by decide +kernel, by decide +kernel⟩

/-- Lane 4 measures scrambled service 210, whose slot lane 0 uses too. -/
def shared : State :=
  { site.modLane 4 (fun l => { l with state := .surveying, service := some 210, input := some .a }) with
    map := [newEntry .a 310 (.component [4] (some 2))]
    slots := site.slots.set 2 (some { usedSlot with users := [4, 0] })
    surveys := site.surveys.set 4 ⟨.running, some 1, [SurveyRecord.fresh 210]⟩ }

theorem witness_ComponentPacketReachesItsLanes :
    let clear := clearPacket 600 0 false false []
    let even := packetOfBytes [0x47, 0x20, 0x81, 0x36]
    let s := carrying 0 .passing id
    (s.resetHeld = false ∧ packetByte clear 0 = 0x47#8 ∧ errorFlag clear = false ∧ wirePhase clear ≠ .reserved ∧
        streamNumber clear = 600 ∧ s.entry? .b 600 = some (newEntry .b 600 (.component [0] none)) ∧
        [(0 : Fin 6)].Nodup ∧ (s.lanes[(0 : Fin 6)]).state ≠ .surveying ∧ (5 : Fin 6) ∉ [(0 : Fin 6)]) ∧
      (shared.resetHeld = false ∧ packetByte even 0 = 0x47#8 ∧ errorFlag even = false ∧ wirePhase even = .even ∧
        streamNumber even = 310 ∧ shared.entry? .a 310 = some (newEntry .a 310 (.component [4] (some 2))) ∧
        ((newEntry .a 310 (.component [4] (some 2))).continuity even).1 = .accepted ∧
        (shared.slots[(2 : Fin 16)]).isSome = true ∧ (shared.lanes[(4 : Fin 6)]).state = .surveying ∧
        (shared.surveys[(4 : Fin 6)]).position = some (0 + 1)) ∧
      ((⟨.b, 600, .component [0] none, some 0, false⟩ : MapEntry).continuity clear).1 = .duplicate := by
  decide +kernel

theorem witness_ComponentPacketReachesItsLanes_lead :
    (carrying 0 .passing id).LeadOf 0 .b 600 ∧ ¬(carrying 0 .passing id).LeadOf 0 .b 601 := by
  have hs : (carrying 0 .passing id).laneService? 0 = some service520 := by decide +kernel
  refine ⟨⟨by decide +kernel, service520, ⟨600, .video⟩, [⟨601, .audio⟩], hs, rfl, rfl⟩, ?_⟩
  rintro ⟨_, r, c, rest, hr, hc, h⟩
  rw [hs] at hr
  cases hr
  cases hc
  cases h

theorem witness_DamagedPacketsCountAsErrors :
    let clear := clearPacket 600 0 false false []
    let flagged := packetOfBytes [0x47, 0xA0, 0x02, 0x58]
    let reserved := packetOfBytes [0x47, 0x20, 0x42, 0x58]
    let bare := packetOfBytes [0x47, 0x00, 0x42, 0x58]
    let s := carrying 0 .passing id
    (s.resetHeld = false ∧ s.entry? .b 600 = some (newEntry .b 600 (.component [0] none)) ∧ [(0 : Fin 6)].Nodup) ∧
      [clear, flagged, reserved, bare].all (fun p => packetByte p 0 == 0x47#8 && streamNumber p == 600) = true ∧
      (errorFlag clear = false ∧ errorFlag flagged = true) ∧
      (errorFlag reserved = false ∧ wirePhase reserved = .reserved ∧ hasPayload reserved = true) ∧
      (errorFlag bare = false ∧ wirePhase bare = .reserved ∧ hasPayload bare = false) := by decide +kernel

theorem witness_DamagedPacketsCountAsErrors_message :
    ∀ a ∈ [Assembly.idle, .assembling [4] 703], (gathering a).resetHeld = false ∧
      (gathering a).entry? .b 4010 = some ⟨.b, 4010, .message .guide a, some 6, false⟩ ∧
      packetByte (startPacket []) 0 = 0x47#8 ∧ streamNumber (startPacket []) = 4010 := by decide +kernel

theorem witness_LaneReportsAndGateDisposal_reports :
    let arrival : LeadArrival :=
      { outcome := .accepted, delivered := true, descrambled := true, scrambledService := true, phase := .even,
        entryPoint := true }
    let l : Lane := { Lane.powerOn with state := .stalled, step := some .entry }
    (arrival.outcome = .accepted ∧ arrival.delivered = true ∧ arrival.entryPoint = true ∧
        ({ arrival with outcome := .damaged } : LeadArrival).outcome ≠ .accepted) ∧
      (Lane.powerOn.state ≠ .acquiring ∧ Lane.powerOn.state ≠ .stalled ∧ l.state = .stalled ∧
        l.step = some .entry ∧ ({ l with step := some .key } : Lane).step = some .key ∧
        ({ l with step := some .signal } : Lane).step = some .signal) ∧
      (let d : Lane := { l with state := .degraded, ceiling := 4, health := 3 }
       d.state = .degraded ∧ raise d.ceiling d.health = d.ceiling ∧
        raise d.ceiling ({ d with health := 2 } : Lane).health ≠ d.ceiling) ∧
      (({ l with state := .passing, health := 2 } : Lane).health = 2 ∧
        ({ l with state := .passing, health := 1 } : Lane).health ≤ 1) ∧
      l.state ∉ [LaneState.passing, .surveying, .degraded] := by decide

theorem witness_LaneReportsAndGateDisposal_gate :
    let l : Lane := { Lane.powerOn with state := .passing, gate := .pass, health := 2 }
    Lane.powerOn.gate = .hold ∧ (nested.lanes[(0 : Fin 6)]).gate = .blank ∧
      ({ l with gate := .releasing } : Lane).gate = .releasing ∧
      (l.gate = .pass ∧ ∀ q, l.buffer ≠ .programme q) ∧
      (({ l with buffer := .programme readClockPacket } : Lane).buffer = .programme readClockPacket ∧
        l.state = .passing ∧ l.reasons = {} ∧ 2 ≤ l.health ∧ ({ l with health := 1 } : Lane).health ≤ 1) :=
  ⟨rfl, rfl, rfl, ⟨rfl, fun _ => by simp [Lane.powerOn]⟩, rfl, rfl, rfl, by decide, by decide⟩

theorem witness_KeyEntryVotes :
    let k : KeySlot := usedSlot
    let free : KeySlot := { k with phase := none, even := ⟨none, none⟩ }
    (k.phase = some .even ∧ (k.half .even).key = some ⟨10, 4100⟩) ∧
      ¬(free.phase = some .even ∧ (free.half .even).key ≠ none) ∧
      ((k.half .even).key = some ⟨10, 4100⟩ ∧ ¬(({ k with phase := none } : KeySlot).phase = some Phase.even)) ∧
      ((free.half .even).key = none ∧ (free.half .even).candidate = none ∧ (1 + 1) / 2 ≤ 1 ∧ 1 < (3 + 1) / 2) ∧
      ((k.half .odd).key = none ∧ (k.half .odd).candidate = some ⟨11, 4100, 2⟩ ∧ (5 + 1) / 2 ≤ 2 + 1 ∧
        2 + 1 < (7 + 1) / 2) := by decide

theorem witness_KeyEntryVotes_bodies :
    let body := (keySection.drop 3).take 12
    (busy.slots[(2 : Fin 16)]).isSome = true ∧ parseKeyBody body = some [⟨4100, .even, 10⟩] ∧
      parseKeyBody [] = none ∧ parseKeyBody (body ++ [0]) = none ∧
      (hasPayload (packetOfBytes [0x47, 0x00, 0x81, 0x36]) = false ∧
        hasPayload (clearPacket 310 0 false false []) = true ∧
        wirePhase (clearPacket 310 0 false false []) = .clear ∧
        wirePhase (packetOfBytes [0x47, 0x20, 0x81, 0x36]) = .even ∧
        wirePhase (packetOfBytes [0x47, 0x20, 0xC1, 0x36]) = .odd ∧ (usedSlot.half .odd).key = none) := by
  decide +kernel

theorem witness_TimeSectionJudged :
    let c := clockAt 800000000
    let held : Clock := { c with pendingStep := some ⟨800007298, 4⟩ }
    (((timeSection.drop 3).take 12).length ≠ 13 ∧
        (timeSection.drop 3).take 13 = bytes32 800000000 ++ bytes32 0 ++ bytes32 0 ++ [0]) ∧
      site.clock.valid = false ∧ c.valid = true ∧
      ((800000301 : Int) - c.now > 300 ∧ (800000300 : Int) - c.now = 300 ∧ (799999700 : Int) - c.now = -300 ∧
        (800000002 : Int) - c.now = 2 ∧ (799999999 : Int) - c.now = -1) ∧
      c.pendingStep = none ∧ held.pendingStep = some ⟨800007298, 4⟩ ∧
      (800007304 : Int) - (800007298 + 4) = 2 ∧ (800007305 : Int) - (800007298 + 4) = 3 := by decide +kernel

/-- `shopSold` as unit 0x00A1B2C3. -/
def addressed : State := { shopSold with unitAddress := some 0x00A1B2C3 }

theorem witness_GrantSectionTaken :
    let e := Ev.start addressed
    let body := (grantSection.drop 3).take 8
    let full (clock : Clock) (stop : Option Nat) : State :=
      { shop with clock := clock, entitlement := { shop.entitlement with
          grants := (List.range 48).map fun k => ⟨k + 1, .headend, 0, stop, none⟩ } }
    (parseGrantBody (body.take 7) = none ∧ parseGrantBody body = some (0x00A1B2C3, [.remove 5]) ∧
        e.now.unitAddress = some 0x00A1B2C3 ∧ addressed.unitAddress ≠ some 0) ∧
      ((addressed.grantOp (.remove 5)).1.entitlement = addressed.entitlement ∧
        (addressed.grantOp (.remove 4300)).1.entitlement.grants ≠ addressed.entitlement.grants ∧
        ((full (clockAt 9) none).grantOp (.add 999 0 none)).2 = true) ∧
      ((∃ g ∈ (full (clockAt 9) none).entitlement.grants, g.product = 48 ∧ g.source = .headend) ∧
        (∀ g ∈ addressed.entitlement.grants, ¬(g.product = 4300 ∧ g.source = .headend)) ∧
        addressed.entitlement.grants.length < 48) ∧
      (48 ≤ (full (clockAt 9) none).entitlement.grants.length ∧
        48 ≤ ((full (clockAt 9) none).entitlement.grants.filter fun g => !g.endedAt 9).length ∧
        ((full (clockAt 9) (some 9)).entitlement.grants.filter fun g => !g.endedAt 9).length < 48) ∧
      (∀ r ∈ addressed.entitlement.log, r.sequence ≠ 2) ∧
      ∃ r, addressed.entitlement.log = [] ++ r :: [] ∧ r.sequence = 1 :=
  ⟨by decide +kernel, by decide +kernel, by decide +kernel, by decide +kernel, by decide +kernel, _, rfl, rfl⟩

/-- A table of 384 entries of as many services, entry `k` starting at 1000 + k and 60 seconds long. -/
def fullGuide : Guide :=
  { Guide.powerOn with entries := (List.range 384).map fun k => ⟨k + 1, 1, 1000 + k, 1, 0, 0, 0⟩ }

theorem witness_GuideSectionTaken :
    let g : GuideEntry := ⟨210, 501, 800003600, 90, 9, 4300, 120⟩
    let body := (guideSection.drop 3).take 16
    (parseGuideBody body = some (210, [g]) ∧ parseGuideBody (body.take 15) = none) ∧
      (([g].foldl (Guide.place site.clock) site.guide).entries ≠ site.guide.entries ∧
        (fullGuide.place site.clock g).entries = fullGuide.entries) ∧
      ((siftEntries [g]).1 = [g] ∧ (∃ h ∈ (siftEntries [g]).1, g.start < h.stop ∧ h.start < g.stop) ∧
        ¬∃ h ∈ (siftEntries []).1, g.start < h.stop ∧ h.start < g.stop) ∧
      (site.guide.entries.length < 384 ∧ 384 ≤ fullGuide.entries.length ∧
        (fullGuide.entries.filter fun h => decide ((clockAt 1060).valid = true ∧ h.stop ≤ (clockAt 1060).now)) =
          [] ++ ⟨1, 1, 1000, 1, 0, 0, 0⟩ :: [] ∧
        (fullGuide.entries.filter fun h => decide ((clockAt 1059).valid = true ∧ h.stop ≤ (clockAt 1059).now)) = [] ∧
        fullGuide.entries = fullGuide.entries.take 383 ++ ⟨384, 1, 1383, 1, 0, 0, 0⟩ :: [] ∧
        (∀ x ∈ fullGuide.entries.take 383, x.start ≤ 1383) ∧ (1383 : Nat) ≤ g.start ∧ (999 : Nat) < 1383) := by
  decide +kernel

theorem witness_TickEventCounts :
    let measured (ticks : Nat) := { carrying 5 .surveying (fun l => { l with ticks := ticks }) with
      surveys := site.surveys.set 5 ⟨.running, some 1, [SurveyRecord.fresh 520]⟩ }
    (site.resetHeld = false ∧ 9 ≤ ({ site with tickPhase := 9 } : State).tickPhase ∧
        ({ site with tickPhase := 8 } : State).tickPhase < 9) ∧
      (∀ l ∈ [(29, 30), (28, 30)], raise 65535 l.1 ≤ l.2) ∧
      ((carrying 0 .acquiring fun l => { l with ticks := 29 }).lanes[(0 : Fin 6)]).dwell ≤ raise 65535 29 ∧
      ((carrying 0 .acquiring fun l => { l with ticks := 28 }).lanes[(0 : Fin 6)]).state = .acquiring ∧
      ((carrying 0 .passing fun l => { l with silence := 19 }).lanes[(0 : Fin 6)]).silenceLimit ≤ raise 255 19 ∧
      raise 255 18 < ((carrying 0 .passing id).lanes[(0 : Fin 6)]).silenceLimit ∧
      ((carrying 0 .degraded id).lanes[(0 : Fin 6)]).state = .degraded ∧
      ((carrying 0 .lost id).lanes[(0 : Fin 6)]).state = .lost ∧
      ((carrying 4 .passing fun l => { l with autoStop := some 2 }).lanes[(4 : Fin 6)]).autoStop = some 2 ∧
      (∀ k ∈ [28, 29], ((measured k).lanes[(5 : Fin 6)]).state = .surveying ∧
        ((measured k).surveys[(5 : Fin 6)]).position = some (0 + 1) ∧
        ((measured k).surveys[(5 : Fin 6)]).records[0]? = some (SurveyRecord.fresh 520)) ∧
      raise 65535 28 < ((measured 28).lanes[(5 : Fin 6)]).dwell ∧
      ((measured 29).lanes[(5 : Fin 6)]).dwell ≤ raise 65535 29 := by
  decide +kernel

theorem witness_SecondEventCounts :
    let pending (age : Nat) : Clock := { clockAt 4294967294 with pendingStep := some ⟨5, age⟩ }
    site.resetHeld = false ∧ ({ site with secondTaken := true } : State).secondTaken = true ∧
      site.secondTaken = false ∧ site.clock.valid = false ∧ (pending 58).valid = true ∧
      (clockAt 5).pendingStep = none ∧ (pending 58).pendingStep = some ⟨5, 58⟩ ∧ 58 + 1 < 60 ∧ 60 ≤ 59 + 1 ∧
      ((carrying 4 .passing fun l => { l with autoStop := some 2 }).lanes[(4 : Fin 6)]).autoStop = some (0 + 2) ∧
      ((site.modProfile 3 fun p => { p with lockout := 1 }).profiles[(3 : Fin 4)]).lockout = 1 ∧
      ((site.modProfile 3 fun p => { p with period := 1 }).profiles[(3 : Fin 4)]).period = 1 := by decide +kernel

/-- Lane 0 of profile 1 on service 210's event 501, which ends as N reaches 800,009,000; the previous
index and day are older ones. -/
def dawn : State :=
  { (site.modLane 0 fun l => { l with
        state := .passing, service := some 210, input := some .a, profile := some 1, holdAtEnd := true,
        copy := some ⟨210, 501, 800003600, 90, 0, 4300, 120⟩, gate := .pass }).modProfile 1 (fun p => { p with
        budget := 1, used := 59, recordedDay := some 1 }) with
    clock := { clockAt 800008999 with previousIndex := some 13333482, previousDay := some 1 }
    guide := shop.guide
    timers := site.timers.set 23 { Timer.powerOn with
      isSet := true, weekday := none, hour := none, minute := none, service := 210, repeats := true } }

theorem witness_SecondEventAtLanesAndTimers :
    let paid := dawn.modLane 0 fun l => { l with copy := none, holdAtEnd := false }
    dawn.resetHeld = false ∧ dawn.secondTaken = false ∧ dawn.clock.valid = true ∧
      (∀ a b : Bool,
        let t := ((Ev.start dawn).secondAt a b).close
        let u := ((Ev.start paid).secondAt a b).close
        dawn.clock.previousIndex ≠ some t.clock.minuteIndex ∧ dawn.clock.previousDay ≠ some t.clock.day ∧
          (dawn.timers[(23 : Fin 24)]).fires t.clock.minuteIndex = true ∧
          (dawn.timers[(0 : Fin 24)]).fires t.clock.minuteIndex = false ∧
          isBoundary (dawn.lanes[(0 : Fin 6)]).copy (t.currentEntry 210) = true ∧
          isBoundary (paid.lanes[(0 : Fin 6)]).copy (u.currentEntry 210) = false) ∧
      ((paid.profiles[(1 : Fin 4)]).budget < 1440 ∧ (paid.profiles[(1 : Fin 4)]).used + 1 = 60 * 1 ∧
        (paid.lanes[(0 : Fin 6)]).state = .passing ∧ (paid.lanes[(0 : Fin 6)]).reasons = {} ∧
        (paid.lanes[(0 : Fin 6)]).evaluatedFor 1 = true) ∧
      ((carrying 4 .passing fun l => { l with autoStop := some 1 }).lanes[(4 : Fin 6)]).autoStop = some 1 ∧
      ((carrying 4 .passing fun l => { l with autoStop := some 1 }).lanes[(4 : Fin 6)]).state ≠ .idle := by
  decide +kernel

theorem witness_StepOfTimeReachesItsOwners :
    dawn.clock.previousIndex = some 13333482 ∧ ((1 : Int) ≤ 300 ∧ (300 : Int) ≤ 300 ∧ ¬(1 : Int) ≤ 0) ∧
      13333482 < ({ dawn.clock with now := 800009200 } : Clock).minuteIndex ∧
      (dawn.profiles[(1 : Fin 4)]).recordedDay = some 1 ∧ 1 ≠ ({ dawn.clock with now := 800009200 } : Clock).day ∧
      (dawn.profiles[(0 : Fin 4)]).recordedDay = none ∧
      ({ dawn.profiles[(1 : Fin 4)] with used := 0, extension := 0 } : Profile).reached = false ∧
      (dawn.lanes[(0 : Fin 6)]).evaluatedFor 1 = true ∧ (dawn.lanes[(0 : Fin 6)]).profile = some 1 ∧
      (dawn.lanes[(0 : Fin 6)]).state.evaluated = true := by decide +kernel

theorem witness_PartsOfTheTimeEvents_tick :
    let waiting := carrying 0 .acquiring fun l => { l with ticks := 30 }
    let silent (state : LaneState) := carrying 0 state fun l => { l with silence := 20 }
    let measured := { carrying 5 .surveying (fun l => { l with ticks := 30 }) with
      surveys := site.surveys.set 5 ⟨.running, some 1, [SurveyRecord.fresh 520]⟩ }
    site.resetHeld = false ∧ ¬((site.lanes[(0 : Fin 6)]).state = .acquiring) ∧
      ((waiting.lanes[(0 : Fin 6)]).state = .acquiring ∧
        (waiting.lanes[(0 : Fin 6)]).dwell ≤ (waiting.lanes[(0 : Fin 6)]).ticks) ∧
      (∀ state ∈ [LaneState.passing, .degraded], ((silent state).lanes[(0 : Fin 6)]).state = state ∧
        ((silent state).lanes[(0 : Fin 6)]).silenceLimit ≤ ((silent state).lanes[(0 : Fin 6)]).silence) ∧
      ¬(site.lanes[(0 : Fin 6)]).silenceLimit ≤ (site.lanes[(0 : Fin 6)]).silence ∧
      ((measured.lanes[(5 : Fin 6)]).state = .surveying ∧
        (measured.lanes[(5 : Fin 6)]).dwell ≤ (measured.lanes[(5 : Fin 6)]).ticks ∧
        (measured.surveys[(5 : Fin 6)]).position = some (0 + 1) ∧
        (measured.surveys[(5 : Fin 6)]).records[0]? = some (SurveyRecord.fresh 520)) := by decide +kernel

theorem witness_PartsOfTheTimeEvents_second :
    let stopping := carrying 4 .passing fun l => { l with autoStop := some 1 }
    let ending := (nested.modProfile 1 fun p => { p with lockout := 1, period := 1 })
    let expiring := { shopSold with clock := clockAt 800009000 }
    stopping.resetHeld = false ∧ ¬((site.lanes[(4 : Fin 6)]).state ≠ .idle) ∧
      ((stopping.lanes[(4 : Fin 6)]).state ≠ .idle ∧ (stopping.lanes[(4 : Fin 6)]).autoStop = some 1) ∧
      ((site.profiles[(1 : Fin 4)]).lockout ≠ 1 ∧ (site.profiles[(1 : Fin 4)]).period ≠ 1) ∧
      ((ending.profiles[(1 : Fin 4)]).lockout = 1 ∧ (ending.profiles[(1 : Fin 4)]).period = 1 ∧
        (ending.lanes[(0 : Fin 6)]).evaluatedFor 1 = true) ∧
      (let c : Clock := { clockAt 5 with pendingStep := some ⟨900, 59⟩ }
       c.valid = true ∧ c.pendingStep = some ⟨900, 59⟩ ∧ ¬(site.clock.valid = true)) ∧
      (expiring.clock.valid = true ∧ (∃ g ∈ expiring.entitlement.grants, g.endedAt expiring.clock.now = true) ∧
        ¬∃ g ∈ shopSold.entitlement.grants, g.endedAt shopSold.clock.now = true) := by decide +kernel

/-- `site` with a VALID clock and timer 23 due at every minute: a RECORD of a service on lane 5. -/
def recording (service : Nat) : State :=
  { site with
    clock := clockAt 800000000
    timers := site.timers.set 23 { Timer.powerOn with
      isSet := true, weekday := none, hour := none, minute := none, action := .record, lane := 5,
      service := service, duration := 720 } }

theorem witness_TimersFire :
    let due (s : State) : Prop := (s.timers[(23 : Fin 24)]).isSet = true ∧ s.clock.valid = true ∧
      s.resetHeld = false ∧ (s.timers[(23 : Fin 24)]).weekday = none ∧ (s.timers[(23 : Fin 24)]).hour = none ∧
      (s.timers[(23 : Fin 24)]).minute = none ∧ (s.timers[(23 : Fin 24)]).lastFired = none
    (due (recording 210) ∧ due dawn ∧ (dawn.timers[(23 : Fin 24)]).action = .remind ∧
        (0 : Fin 2).val = (dawn.timers[(23 : Fin 24)]).display ∧ (site.timers[(23 : Fin 24)]).isSet = false) ∧
      ((5 : Fin 6).val = ((recording 210).timers[(23 : Fin 24)]).lane ∧
        ((recording 210).timers[(23 : Fin 24)]).action = .record ∧
        ((recording 210).lanes[(5 : Fin 6)]).state = .idle ∧
        ((carrying 5 .passing id).lanes[(5 : Fin 6)]).state ≠ .idle) ∧
      ((recording 999).service? 999 = none ∧ (recording 520).service? 520 = some service520 ∧
        ({ recording 520 with inputB := ⟨.inSync, none⟩ } : State).carrier 12 = none ∧
        (recording 520).carrier 12 = some .b) ∧
      ((({ clashing with clock := clockAt 9 } : State).detach 5).judge .a service210 = some .conflict ∧
        ((routed 94).detach 5).judge .a { service210 with components := [⟨8000, .video⟩] } = some .full ∧
        ((recording 520).detach 5).judge .b service520 = none) := by decide +kernel

theorem witness_TimersFire_map : (recording 520).MapSound := mapSound_of _ (by decide +kernel)

theorem witness_OutputsAndReturnPort_outputs :
    let waits := site.modLane 5 fun l => { l with buffer := .blankOrder }
    let shown := site.modLane 1 fun l => { l with buffer := .programme readClockPacket }
    waits.resetHeld = false ∧ (site.lanes[(0 : Fin 6)]).buffer = .empty ∧ site.decoders[(1 : Fin 2)] = none ∧
      (shown.lanes[laneOfDisplay 1]).buffer.packet? 1 = some readClockPacket ∧ site.recorder = none ∧
      (∀ k : Fin 4, ¬(site.lanes[recordingLane k]).buffer ≠ .empty) ∧
      (waits.lanes[recordingLane 3]).buffer.packet? 5 = some (blankPacket 5) ∧
      (∀ k : Fin 4, (waits.lanes[recordingLane k]).buffer ≠ .empty →
        ((3 : Fin 4).val + 3 - waits.lastGranted.val) % 4 ≤ (k.val + 3 - waits.lastGranted.val) % 4) := by
  decide +kernel

theorem witness_OutputsAndReturnPort_return :
    let packet : ReturnPacket := ⟨3, .notice .clock []⟩
    let queued := { site with returnQueue := List.replicate 14 packet, notices := [.prompt 1, .clock] }
    queued.resetHeld = false ∧ site.returnQueue = [] ∧ queued.returnPort = none ∧
      queued.returnQueue = packet :: List.replicate 13 packet ∧ site.notices = [] ∧
      14 < ({ queued with returnQueue := List.replicate 15 packet } : State).returnQueue.length ∧
      queued.notices = .prompt 1 :: [.clock] ∧ queued.returnQueue.length ≤ 14 ∧
      (∀ d, Notice.clock ≠ .prompt d) := by decide +kernel

end Sys2Proof.Tests
end

/-!
PROOF. MASK PROMPT and ORDER PROMPT (R190, R191). Both commands are one change of one arbiter, so the close of
such an event is described once: it keeps the change, and it adds the ELIGIBLE report with its PROMPT notice exactly
when the display's eligible set has opened (R187, R193). A mask can open the set; a new order cannot, since an
empty stack leaves eligibility to the entries alone.
-/

namespace Sys2Proof.Machine

/-! ### The close of an event that changes one arbiter -/

/-- The arbiter with ELIGIBLE in its report set (R193). -/
def Arbiter.reportEligible (a : Arbiter) : Arbiter := { a with report := { a.report with eligible := true } }

/-- The pending list with a notice raised, which stands there at most once (R203). -/
def pendingWith (held : List Notice) (n : Notice) : List Notice := if n ∈ held then held else held ++ [n]

theorem mem_pendingWith (held : List Notice) (n : Notice) : n ∈ pendingWith held n := by
  unfold pendingWith
  split
  · assumption
  · simp

/-- A display whose eligible set has opened reports ELIGIBLE with a PROMPT notice (R187, R193). -/
theorem Ev.followEligible_of_opened {e : Ev} {d : Fin 2} (hb : (e.before.arbiters[d]).eligible = [])
    (hn : (e.now.arbiters[d]).eligible ≠ []) :
    e.followEligible d = (e.on fun s => s.modArbiter d Arbiter.reportEligible).notice (.prompt d) := by
  have hopen : ((e.before.arbiters[d]).eligible.isEmpty && !(e.now.arbiters[d]).eligible.isEmpty) = true := by
    simpa using And.intro hb hn
  unfold Ev.followEligible
  rw [if_pos hopen]
  rfl

/-- The displays are followed in turn, so when only `d` has opened, `d` alone is followed. -/
theorem Ev.followEligible_all_of_opened {e : Ev} {d : Fin 2} (hb : (e.before.arbiters[d]).eligible = [])
    (hn : (e.now.arbiters[d]).eligible ≠ [])
    (ho : ∀ c, c ≠ d → e.now.arbiters[c] = e.before.arbiters[c]) :
    allDisplays.foldl (fun e d => e.followEligible d) e =
      (e.on fun s => s.modArbiter d Arbiter.reportEligible).notice (.prompt d) := by
  have hquiet : ∀ (e' : Ev) (c : Fin 2), c ≠ d → e'.before = e.before →
      e'.now.arbiters[c] = e.now.arbiters[c] → e'.followEligible c = e' := by
    intro e' c hc hbefore hnow
    refine Ev.followEligible_of_not_opened fun h => ?_
    rwa [hnow, ho c hc, ← hbefore]
  have hother : ∀ c, c ≠ d →
      ((e.on fun s => s.modArbiter d Arbiter.reportEligible).notice (.prompt d)).followEligible c =
        (e.on fun s => s.modArbiter d Arbiter.reportEligible).notice (.prompt d) := fun c hc =>
    hquiet _ c hc rfl (State.modArbiter_get_ne e.now d c _ hc.symm)
  simp only [allDisplays, List.foldl_cons, List.foldl_nil]
  obtain rfl | rfl : d = 0 ∨ d = 1 := by omega
  · rw [Ev.followEligible_of_opened hb hn, hother 1 (by decide)]
  · rw [hquiet e 0 (by decide) rfl rfl, Ev.followEligible_of_opened hb hn]

/-- A change of one arbiter that does not open its eligible set is all that the event does. -/
theorem Ev.close_modArbiter_of_not_opened {s : State} {d : Fin 2} {f : Arbiter → Arbiter}
    (h : (s.arbiters[d]).eligible = [] → (f s.arbiters[d]).eligible = []) :
    ((Ev.start s).on fun s => s.modArbiter d f).close = s.modArbiter d f := by
  have hquiet : ∀ c : Fin 2, (s.arbiters[c]).eligible = [] → ((s.modArbiter d f).arbiters[c]).eligible = [] := by
    intro c hc
    by_cases hcd : d = c
    · subst hcd
      simpa using h hc
    · rwa [State.modArbiter_get_ne s d c f hcd]
  have hraised : s.notices ++ newNotices s.notices [] = s.notices := by simp
  exact (Ev.close_of_quiet (e := (Ev.start s).on fun s => s.modArbiter d f) rfl rfl hquiet).trans
    (congrArg (fun held => { s.modArbiter d f with notices := held }) hraised)

/-- A change of one arbiter that opens its eligible set is followed by the ELIGIBLE report and the PROMPT
notice (R187, R193). -/
theorem Ev.close_modArbiter_of_opened {s : State} {d : Fin 2} {f : Arbiter → Arbiter}
    (hb : (s.arbiters[d]).eligible = []) (hn : (f s.arbiters[d]).eligible ≠ []) :
    ((Ev.start s).on fun s => s.modArbiter d f).close =
      { s.modArbiter d (fun a => (f a).reportEligible) with notices := pendingWith s.notices (.prompt d) } := by
  have hfollow := Ev.followEligible_all_of_opened (e := (Ev.start s).on fun s => s.modArbiter d f) hb
    (by simpa [Ev.on, Ev.start] using hn) (fun c hc => State.modArbiter_get_ne s d c f hc.symm)
  have htwice : (s.modArbiter d f).modArbiter d Arbiter.reportEligible =
      s.modArbiter d fun a => (f a).reportEligible := by
    simp [State.modArbiter]
  unfold Ev.close
  rw [Ev.closeGates_of_lanes rfl, Ev.closePrompts_of_lanes rfl rfl, hfollow]
  simp only [Ev.on, Ev.notice, Ev.start, htwice, newNotices_singleton, State.modArbiter_notices, pendingWith]
  split <;> simp

/-! ### MASK PROMPT (R190) -/

@[simp] theorem Arbiter.setMasks_entries_get (a : Arbiter) (masked : Byte) (k : Fin 8) :
    (a.setMasks masked).entries[k.val] = { a.entries[k.val] with masked := masked.getLsbD k.val } := by
  simp [Arbiter.setMasks]

/-- A bit of a byte as its part of the byte's value. -/
theorem bit_weight (b : Byte) (k : Nat) :
    (if b.getLsbD k = true then 2 ^ k else 0) = 2 ^ k * (b.toNat / 2 ^ k % 2) := by
  rw [BitVec.getLsbD, Nat.testBit_eq_decide_div_mod_eq]
  rcases Nat.mod_two_eq_zero_or_one (b.toNat / 2 ^ k) with h | h <;> simp [h]

/-- The set of the kinds whose bit is set is the byte itself (R209). -/
theorem setByte_bits (b : Byte) : setByte (allKinds.filter fun k => b.getLsbD k.val) = b.toNat := by
  have hany : ∀ n < 8, ((allKinds.filter fun k => b.getLsbD k.val).any fun m => m.val == n) = b.getLsbD n := by
    intro n hn
    rw [Bool.eq_iff_iff, List.any_eq_true]
    constructor
    · rintro ⟨m, hm, hmn⟩
      rw [← beq_iff_eq.mp hmn]
      exact (List.mem_filter.mp hm).2
    · exact fun h => ⟨⟨n, hn⟩, List.mem_filter.mpr ⟨mem_allKinds _, h⟩, beq_self_eq_true _⟩
  have hsum : setByte (allKinds.filter fun k => b.getLsbD k.val) =
      (List.range 8).foldl (fun acc n => acc + 2 ^ n * (b.toNat / 2 ^ n % 2)) 0 :=
    List.foldl_ext _ _ _ fun acc n hn => by rw [hany n (List.mem_range.mp hn), bit_weight]
  have hb := b.isLt
  rw [hsum, show List.range 8 = [0, 1, 2, 3, 4, 5, 6, 7] from rfl]
  simp only [List.foldl_cons, List.foldl_nil]
  omega

/-- The masked set after MASK PROMPT is the one given (R190, R209). -/
theorem Arbiter.maskedSet_setMasks (a : Arbiter) (masked : Byte) :
    setByte (a.setMasks masked).maskedSet = masked.toNat := by
  simpa [Arbiter.maskedSet] using setByte_bits masked

theorem Ev.maskPrompt_of_no_display {e : Ev} {display : Nat} {masked : Byte} (h : 1 < display) :
    e.maskPrompt display masked = e.refuse .range := by
  simp [Ev.maskPrompt, displayOf_none h]

theorem Ev.maskPrompt_of_display {e : Ev} {display : Nat} {masked : Byte} {d : Fin 2} (h : d.val = display) :
    e.maskPrompt display masked = (e.on fun s => s.modArbiter d fun a => a.setMasks masked).ok fun s =>
      [.num 1 (setByte (s.arbiters[d]).maskedSet)] := by
  simp [Ev.maskPrompt, displayOf_val h]

theorem exec_maskPrompt : ∀ tag display masked s,
    exec (.maskPrompt tag display masked) s = execMaskPrompt tag display masked s := by
  intros; rfl

theorem exec_maskPrompt_ready {tag : Word16} {display masked : Byte} {s : State} (ready : s.portCReady = true) :
    exec (.maskPrompt tag display masked) s =
      .next (((Ev.start s).maskPrompt display.toNat masked).close tag 0x29) := by
  rw [exec_maskPrompt, execMaskPrompt, command_ready ready]

/-- MASK PROMPT of a display there is: the state at the close of its event, which answers with the set given. -/
theorem exec_maskPrompt_ok {tag : Word16} {display masked : Byte} {s u : State} {d : Fin 2}
    (ready : s.portCReady = true) (hd : d.val = display.toNat)
    (hu : ((Ev.start s).on fun s => s.modArbiter d fun a => a.setMasks masked).close = u)
    (he : (u.arbiters[d]).entries = ((s.arbiters[d]).setMasks masked).entries) :
    exec (.maskPrompt tag display masked) s = .next (u.respond tag 0x29 .ok [.num 1 masked.toNat]) := by
  have hset : (u.arbiters[d]).maskedSet = ((s.arbiters[d]).setMasks masked).maskedSet := by
    simp only [Arbiter.maskedSet, he]
  rw [exec_maskPrompt_ready ready, Ev.maskPrompt_of_display hd, Reply.close_ok, hu, hset,
    Arbiter.maskedSet_setMasks]

/-! ### ORDER PROMPT (R191) -/

/-- The order that ORDER PROMPT gives an arbiter (R191). -/
def Arbiter.setOrder (a : Arbiter) (lowest : Fin 8) (rotate : Bool) : Arbiter :=
  { a with lowest := lowest, autoRotate := rotate }

/-- The cycle of R186 reads every kind, whichever is the lowest. -/
theorem mem_cycle (lowest k : Fin 8) :
    k ∈ [1, 2, 3, 4, 5, 6, 7, 8].map fun n => Fin.ofNat 8 (lowest.val + n) := by
  revert lowest k
  decide

theorem Arbiter.eligible_eq_nil_iff (a : Arbiter) : a.eligible = [] ↔ ∀ k, a.isEligible k = false := by
  simp only [Arbiter.eligible, List.filter_eq_nil_iff, Bool.not_eq_true]
  exact ⟨fun h k => h k (mem_cycle a.lowest k), fun h k _ => h k⟩

/-- With an empty stack no priority is compared, so another order leaves the eligible set empty or not empty as
it was (R187). -/
theorem Arbiter.eligible_setOrder_eq_nil {a : Arbiter} (lowest : Fin 8) (rotate : Bool) (hs : a.stack = [])
    (h : a.eligible = []) : (a.setOrder lowest rotate).eligible = [] := by
  rw [Arbiter.eligible_eq_nil_iff] at h ⊢
  intro k
  simpa [Arbiter.isEligible, Arbiter.setOrder, hs] using h k

theorem Ev.orderPrompt_of_range {e : Ev} {display lowest rotate : Nat}
    (h : 1 < display ∨ 7 < lowest ∨ 1 < rotate) : e.orderPrompt display lowest rotate = e.refuse .range := by
  rcases h with h | h | h
  · simp [Ev.orderPrompt, displayOf_none h]
  · simp [Ev.orderPrompt, kindOf_none h]
  · unfold Ev.orderPrompt
    split
    · rw [if_pos h]
    · rfl

theorem Ev.orderPrompt_of_stack_ne_nil {e : Ev} {display lowest rotate : Nat} {d : Fin 2} {k : Fin 8}
    (hd : d.val = display) (hk : k.val = lowest) (hr : rotate ≤ 1) (hs : (e.now.arbiters[d]).stack ≠ []) :
    e.orderPrompt display lowest rotate = e.refuse .busy := by
  simp only [Ev.orderPrompt, displayOf_val hd, kindOf_val hk]
  rw [if_neg (Nat.not_lt.mpr hr), if_pos hs]

theorem Ev.orderPrompt_of_stack_nil {e : Ev} {display lowest rotate : Nat} {d : Fin 2} {k : Fin 8}
    (hd : d.val = display) (hk : k.val = lowest) (hr : rotate ≤ 1) (hs : (e.now.arbiters[d]).stack = []) :
    e.orderPrompt display lowest rotate =
      (e.on fun s => s.modArbiter d fun a => a.setOrder k (rotate == 1)).ok
        fun s => [.num 1 (s.arbiters[d]).lowest.val, flag (s.arbiters[d]).autoRotate] := by
  simp only [Ev.orderPrompt, displayOf_val hd, kindOf_val hk]
  rw [if_neg (Nat.not_lt.mpr hr), if_neg (not_not.mpr hs)]
  rfl

theorem exec_orderPrompt : ∀ tag display lowest rotate s,
    exec (.orderPrompt tag display lowest rotate) s = execOrderPrompt tag display lowest rotate s := by
  intros; rfl

theorem exec_orderPrompt_ready {tag : Word16} {display lowest rotate : Byte} {s : State}
    (ready : s.portCReady = true) : exec (.orderPrompt tag display lowest rotate) s =
      .next (((Ev.start s).orderPrompt display.toNat lowest.toNat rotate.toNat).close tag 0x2A) := by
  rw [exec_orderPrompt, execOrderPrompt, command_ready ready]

theorem exec_orderPrompt_busy {tag : Word16} {display lowest rotate : Byte} {s : State} {d : Fin 2} {k : Fin 8}
    (ready : s.portCReady = true) (hd : d.val = display.toNat) (hk : k.val = lowest.toNat)
    (hr : rotate.toNat ≤ 1) (hs : (s.arbiters[d]).stack ≠ []) :
    exec (.orderPrompt tag display lowest rotate) s = .next (s.respond tag 0x2A .busy []) := by
  rw [exec_orderPrompt_ready ready, Ev.orderPrompt_of_stack_ne_nil hd hk hr hs, Reply.close_start_refuse]

theorem byte_toNat_beq_one (b : Byte) : (b.toNat == 1) = (b == 1) := by
  rw [Bool.eq_iff_iff, beq_iff_eq, beq_iff_eq]
  exact ⟨fun h => byte_ext h, fun h => congrArg BitVec.toNat h⟩

/-- A byte of 0 or 1 read as a flag and written back. -/
theorem flag_byte {b : Byte} (h : b.toNat ≤ 1) : flag (b == 1) = .num 1 b.toNat := by
  rw [← byte_toNat_beq_one, flag]
  rcases Nat.le_one_iff_eq_zero_or_eq_one.mp h with h0 | h1
  · simp [h0]
  · simp [h1]

theorem exec_orderPrompt_ok {tag : Word16} {display lowest rotate : Byte} {s : State} {d : Fin 2} {k : Fin 8}
    (ready : s.portCReady = true) (hd : d.val = display.toNat) (hk : k.val = lowest.toNat)
    (hr : rotate.toNat ≤ 1) (hs : (s.arbiters[d]).stack = []) :
    exec (.orderPrompt tag display lowest rotate) s = .next (
      (s.modArbiter d fun a => a.setOrder k (rotate == 1)).respond tag 0x2A .ok
        [.num 1 k.val, .num 1 rotate.toNat]) := by
  have hclose := Ev.close_modArbiter_of_not_opened (s := s) (d := d)
    (f := fun a => a.setOrder k (rotate == 1)) (Arbiter.eligible_setOrder_eq_nil k _ hs)
  rw [exec_orderPrompt_ready ready, Ev.orderPrompt_of_stack_nil hd hk hr hs, byte_toNat_beq_one, Reply.close_ok,
    hclose]
  simp only [Fin.getElem_fin, State.modArbiter_get_self, Arbiter.setOrder, flag_byte hr]

/-! ### The obligation -/

/-- Settles O37, from the close of an event that changes one arbiter: MASK PROMPT by whether the new masks open the
eligible set, ORDER PROMPT by its checks. -/
theorem maskAndOrderPrompt : Obligations.MaskAndOrderPrompt := by
  intro tag display masked lowest rotate s ready
  refine ⟨fun h => ?_, fun h => ?_, fun d hd => ⟨?_, fun k hk hr => ⟨?_, ?_⟩⟩⟩
  · rw [exec_maskPrompt_ready ready, Ev.maskPrompt_of_no_display h, Reply.close_start_refuse]
  · rw [exec_orderPrompt_ready ready, Ev.orderPrompt_of_range h, Reply.close_start_refuse]
  · by_cases opens : (s.arbiters[d]).eligible = [] ∧ ((s.arbiters[d]).setMasks masked).eligible ≠ []
    · have ⟨hb, hn⟩ := opens
      have hself := State.modArbiter_get_self s d fun a => (a.setMasks masked).reportEligible
      have hentries := congrArg Arbiter.entries hself
      exact ⟨_, (s.arbiters[d]).setMasks masked,
        exec_maskPrompt_ok ready hd (Ev.close_modArbiter_of_opened hb hn) hentries, rfl,
        fun c hc => State.modArbiter_get_ne s d c (fun a => (a.setMasks masked).reportEligible) hc.symm, rfl,
        Arbiter.setMasks_entries_get _ _, fun h => absurd opens h, fun _ _ => ⟨mem_pendingWith _ _, hself⟩⟩
    · have hquiet : (s.arbiters[d]).eligible = [] → ((s.arbiters[d]).setMasks masked).eligible = [] :=
        fun hb => not_not.mp fun hn => opens ⟨hb, hn⟩
      have hself := State.modArbiter_get_self s d fun a => a.setMasks masked
      exact ⟨_, (s.arbiters[d]).setMasks masked,
        exec_maskPrompt_ok ready hd (Ev.close_modArbiter_of_not_opened hquiet) (congrArg Arbiter.entries hself), rfl,
        fun c hc => State.modArbiter_get_ne s d c _ hc.symm, rfl, Arbiter.setMasks_entries_get _ _,
        fun _ => ⟨hself, rfl⟩, fun hb hn => absurd ⟨hb, hn⟩ opens⟩
  · exact exec_orderPrompt_busy ready hd hk hr
  · exact exec_orderPrompt_ok ready hd hk hr

end Sys2Proof.Machine

/-!
PROOF. The continuity check and the payload of a packet (R11, R211). The rows of R11 are one equation each; the
duplicate row and the next-count row exclude each other because a four-bit count is never its own successor. The
payload and the flags follow from the extension length.
-/

namespace Sys2Proof.Machine

/-! ### The rows of the continuity check (R11) -/

/-- A four-bit sequence count is never the one that follows it. -/
theorem sequenceCount_ne_succ (k : BitVec 4) : k ≠ k + 1 := by bv_omega

section Rows

variable {en : MapEntry} {p : Packet} {last : BitVec 4}

theorem MapEntry.continuity_of_no_payload (hp : hasPayload p = false) :
    en.continuity p = (.uncounted, en.lastCount, en.duplicateMark) := by
  simp [MapEntry.continuity, hp]

theorem MapEntry.continuity_of_lastCount_none (hp : hasPayload p = true) (hl : en.lastCount = none) :
    en.continuity p = (.accepted, some (sequenceCount p), false) := by
  simp [MapEntry.continuity, hp, hl]

/-- The discontinuity flag has the count taken whatever the last count was. -/
theorem MapEntry.continuity_of_discontinuity (hp : hasPayload p = true) (hd : discontinuityFlag p = true) :
    en.continuity p = (.accepted, some (sequenceCount p), false) := by
  cases hl : en.lastCount with
  | none => exact continuity_of_lastCount_none hp hl
  | some last => simp [MapEntry.continuity, hp, hl, hd]

/-- With a last count and no discontinuity flag the count alone, and then the mark, decides the row. -/
theorem MapEntry.continuity_of_lastCount_some (hp : hasPayload p = true) (hl : en.lastCount = some last)
    (hd : discontinuityFlag p = false) :
    en.continuity p =
      if sequenceCount p = last + 1 then (.accepted, some (sequenceCount p), false)
      else if sequenceCount p = last then
        if en.duplicateMark then (.error, some last, true) else (.duplicate, some last, true)
      else (.error, some (sequenceCount p), false) := by
  simp [MapEntry.continuity, hp, hl, hd]

/-- A repeated count is a DUPLICATE once, and an error when the mark stands already. -/
theorem MapEntry.continuity_of_repeated (hp : hasPayload p = true) (hl : en.lastCount = some last)
    (hd : discontinuityFlag p = false) (hk : sequenceCount p = last) :
    en.continuity p = (if en.duplicateMark then .error else .duplicate, some last, true) := by
  have hne : sequenceCount p ≠ last + 1 := hk ▸ sequenceCount_ne_succ _
  rw [continuity_of_lastCount_some hp hl hd, if_neg hne, if_pos hk]
  cases en.duplicateMark <;> rfl

end Rows

/-! ### The payload and the flags of the extension (R211) -/

theorem payload_of_flag {p : Packet} (h : payloadFlag p = true) : payload p = p.toList.drop (payloadStart p) :=
  if_pos h

theorem payload_of_no_flag {p : Packet} (h : payloadFlag p = false) : payload p = [] := by simp [payload, h]

theorem payloadStart_of_no_extension {p : Packet} (h : extensionFlag p = false) : payloadStart p = 4 := by
  simp [payloadStart, h]

theorem length_payload_of_flag {p : Packet} (h : payloadFlag p = true) :
    (payload p).length = 188 - payloadStart p := by
  rw [payload_of_flag h, List.length_drop, Vector.length_toList]

theorem extensionLength_of_zero {p : Packet} (h : packetByte p 4 = 0) : extensionLength p = 0 := by
  simp [extensionLength, h]

/-- An extension holds the byte of its flags only when it is there and its length is not 0. -/
theorem extension_flags_clear {p : Packet} (h : extensionFlag p = false ∨ packetByte p 4 = 0) :
    discontinuityFlag p = false ∧ entryPointFlag p = false := by
  rcases h with h | h
  · simp [discontinuityFlag, entryPointFlag, h]
  · simp [discontinuityFlag, entryPointFlag, extensionLength_of_zero h]

/-! ### The obligation -/

/-- Settles O44, by the rows of R11 in their order and the payload and flags of R211. -/
theorem continuityTable : Obligations.ContinuityTable := by
  intro en p k
  refine ⟨MapEntry.continuity_of_no_payload, fun hp => ⟨?absentOrDiscontinuity, fun last hl hd => ⟨?next,
    ?duplicate, ?repeatedAgain, ?jump⟩⟩, payload_of_flag, ?length, payload_of_no_flag, extension_flags_clear⟩
  case absentOrDiscontinuity =>
    rintro (hl | hd)
    · exact MapEntry.continuity_of_lastCount_none hp hl
    · exact MapEntry.continuity_of_discontinuity hp hd
  case next =>
    intro hk
    rw [MapEntry.continuity_of_lastCount_some hp hl hd, if_pos hk]
  case duplicate | repeatedAgain =>
    intro hk hmark
    simp [MapEntry.continuity_of_repeated hp hl hd hk, hmark]
  case jump =>
    intro hnext hsame
    rw [MapEntry.continuity_of_lastCount_some hp hl hd, if_neg hnext, if_neg hsame]
  case length =>
    intro hf he
    rw [length_payload_of_flag hf, payloadStart_of_no_extension he]

end Sys2Proof.Machine
